-- ==== Sys2Proof/Word.lean ====
section
/-! DEFINITION. The words of the machine: R4 (bit 0 is the least significant bit), R20, R60. -/

namespace Sys2Proof

/-- A 16-bit word: a register, an address, an instruction word. -/
abbrev Word := BitVec 16

/-- An 8-bit byte, the unit of memory. -/
abbrev Byte := BitVec 8

/-- The 4-bit number of a workspace register, R0 to R15. -/
abbrev Reg := BitVec 4

end Sys2Proof
end

