-- ==== Sys2Proof/Config.lean ====
section
/-! DEFINITION. What an implementation fixes, and the free values: the parameter PART (R2), the kinds of memory
region of MEM_MAP (R74), and the values the spec leaves unspecified (93_implementation_defined.md U1, U3, U4, U6). -/

namespace Sys2Proof

/-- The part that is modelled (R2): TMS 9980 covers the TMS 9980A and the TMS 9981. -/
inductive Part where
  | tms9900
  | tms9980
  | tms9940
deriving DecidableEq, Repr

namespace Config

/-- A bit the spec leaves unspecified (U3, U4, U6). It has no body, so nothing can be proved of its value; the
argument is the counter `State.free`, so that two uses need not agree. Log entry 8. -/
opaque freeBit : Nat → Bool

/-- A byte the spec leaves unspecified (U1). Log entries 8, 10 and 11. -/
opaque freeByte : Nat → Byte

/-- A word the spec leaves unspecified (U3). Log entry 8. -/
opaque freeWord : Nat → Word

/-- How many words of a chain of X instructions one step of the model runs before it ends the step; the next step
goes on with the chain (R270, U9). DESIGN CHOICE, safe: log entry 21. -/
def executeDepth : Nat := 16

end Config

end Sys2Proof
end

