-- ==== Sys2Proof/Syntax.lean ====
section
/-! DEFINITION. The instructions: one constructor for each row of spec/opcode_table.json (R120), each with the fields
of its format (R103). Extension words are no part of an instruction: they are fetched when the execution needs them
(R77, R132). -/

namespace Sys2Proof

/-- The general operand (R104): two mode bits and a register. Mode 10 is direct addressing with register field 0 and
indexed addressing with any other (R113), so `indexed 0` is not well formed. -/
inductive Operand where
  /-- mode 00, workspace register -/
  | reg (r : Reg)
  /-- mode 01, implied memory addressing -/
  | ind (r : Reg)
  /-- mode 10 with register field 0, direct memory addressing -/
  | direct
  /-- mode 10 with register field 1 to 15, direct indexed memory addressing -/
  | indexed (r : Reg)
  /-- mode 11, implied memory addressing with auto-increment -/
  | autoInc (r : Reg)
deriving DecidableEq, Repr

/-- The instructions of D1 Tables 18-2 and 18-3 and the three TMS 9940 additions (R120). `src` and `dst` are general
operands, `w` the workspace register field W, `cnt` the count field C, `disp` the displacement. -/
inductive Instr where
  -- format F8 and F9: immediates and internal registers
  | li (w : Reg)
  | ai (w : Reg)
  | andi (w : Reg)
  | ori (w : Reg)
  | ci (w : Reg)
  | stwp (w : Reg)
  | stst (w : Reg)
  | lwpi
  | limi
  -- format F7
  | idle
  | rset
  | rtwp
  | ckon
  | ckof
  | lrex
  -- format F6
  | blwp (src : Operand)
  | b (src : Operand)
  | x (src : Operand)
  | clr (dst : Operand)
  | neg (dst : Operand)
  | inv (dst : Operand)
  | inc (dst : Operand)
  | inct (dst : Operand)
  | dec (dst : Operand)
  | dect (dst : Operand)
  | bl (src : Operand)
  | swpb (dst : Operand)
  | seto (dst : Operand)
  | abs (dst : Operand)
  -- format F5
  | sra (cnt : BitVec 4) (w : Reg)
  | srl (cnt : BitVec 4) (w : Reg)
  | sla (cnt : BitVec 4) (w : Reg)
  | src (cnt : BitVec 4) (w : Reg)
  -- format F2
  | jmp (disp : BitVec 8)
  | jlt (disp : BitVec 8)
  | jle (disp : BitVec 8)
  | jeq (disp : BitVec 8)
  | jhe (disp : BitVec 8)
  | jgt (disp : BitVec 8)
  | jne (disp : BitVec 8)
  | jnc (disp : BitVec 8)
  | joc (disp : BitVec 8)
  | jno (disp : BitVec 8)
  | jl (disp : BitVec 8)
  | jh (disp : BitVec 8)
  | jop (disp : BitVec 8)
  | sbo (disp : BitVec 8)
  | sbz (disp : BitVec 8)
  | tb (disp : BitVec 8)
  -- formats F3 and F4
  | coc (w : Reg) (src : Operand)
  | czc (w : Reg) (src : Operand)
  | xor (w : Reg) (src : Operand)
  | xop (n : BitVec 4) (src : Operand)
  | ldcr (cnt : BitVec 4) (src : Operand)
  | stcr (cnt : BitVec 4) (dst : Operand)
  | mpy (w : Reg) (src : Operand)
  | div (w : Reg) (src : Operand)
  -- format F1
  | szc (src dst : Operand)
  | szcb (src dst : Operand)
  | s (src dst : Operand)
  | sb (src dst : Operand)
  | c (src dst : Operand)
  | cb (src dst : Operand)
  | a (src dst : Operand)
  | ab (src dst : Operand)
  | mov (src dst : Operand)
  | movb (src dst : Operand)
  | soc (src dst : Operand)
  | socb (src dst : Operand)
  -- TMS 9940 only
  | dca (dst : Operand)
  | dcs (dst : Operand)
  /-- `dontCare` is bits 6..2 of the word, which D1 declares to be without meaning (R131, R282). -/
  | liim (dontCare : BitVec 5) (n : BitVec 2)
deriving DecidableEq, Repr

end Sys2Proof
end

