-- ==== Sys2Proof/WellFormed.lean ====
section
/-! DEFINITION. Which terms of `Instr` are instructions of a part: R0 is no index register (R113), and each part has
the rows R122 and R283 give it. -/

namespace Sys2Proof

/-- "General Purpose Register R0 cannot be specified as an index register" (R104, R113). -/
def Operand.wf : Operand → Bool
  | .reg _ => true
  | .ind _ => true
  | .direct => true
  | .indexed r => r != 0
  | .autoInc _ => true

/-- The general operands of an instruction, the source first (R103). -/
def Instr.operands : Instr → List Operand
  | .li _ | .ai _ | .andi _ | .ori _ | .ci _ | .stwp _ | .stst _ | .lwpi | .limi => []
  | .idle | .rset | .rtwp | .ckon | .ckof | .lrex => []
  | .blwp o | .b o | .x o | .clr o | .neg o | .inv o | .inc o | .inct o | .dec o | .dect o => [o]
  | .bl o | .swpb o | .seto o | .abs o => [o]
  | .sra _ _ | .srl _ _ | .sla _ _ | .src _ _ => []
  | .jmp _ | .jlt _ | .jle _ | .jeq _ | .jhe _ | .jgt _ | .jne _ | .jnc _ | .joc _ | .jno _ => []
  | .jl _ | .jh _ | .jop _ | .sbo _ | .sbz _ | .tb _ => []
  | .coc _ o | .czc _ o | .xor _ o | .xop _ o | .ldcr _ o | .stcr _ o | .mpy _ o | .div _ o => [o]
  | .szc o p | .szcb o p | .s o p | .sb o p | .c o p | .cb o p => [o, p]
  | .a o p | .ab o p | .mov o p | .movb o p | .soc o p | .socb o p => [o, p]
  | .dca o | .dcs o => [o]
  | .liim _ _ => []

/-- Whether the part has the instruction: the TMS 9940 has no RSET, CKOF, CKON, LREX and no XOP 0 to 3 (R122, R283,
R284), and it alone has DCA, DCS and LIIM. -/
def Instr.onPart (p : Part) : Instr → Bool
  | .rset | .ckon | .ckof | .lrex => p != .tms9940
  | .xop n _ => p != .tms9940 || 4 ≤ n.toNat
  | .dca _ | .dcs _ | .liim _ _ => p == .tms9940
  | _ => true

/-- The instruction is one the part has, and no operand of it is indexed by R0. -/
def Instr.wf (p : Part) (i : Instr) : Bool := i.onPart p && i.operands.all Operand.wf

end Sys2Proof
end

