-- ==== Sys2Proof/Decode.lean ====
section
/-! DEFINITION. The decoder (R103, R104, R120 to R122, R130, R132), total on any word and on any bytes, and the
encoder. The tree of cases is the map's own structure (R121): first bits 15..12, then the bits the format leaves. -/

namespace Sys2Proof

/-- Why bytes are no instruction. -/
inductive Reject where
  /-- The word matches no row of the opcode table for the part (R130, D11). -/
  | undefinedOpcode (w : Word)
  /-- Fewer than two bytes are left. -/
  | truncated
deriving DecidableEq, Repr

/-- The general operand in six bits, mode in bits 5..4 and register in bits 3..0 (R104). -/
def Operand.decode (c : BitVec 6) : Operand :=
  let r : Reg := c.extractLsb' 0 4
  match (c.extractLsb' 4 2).toNat with
  | 0 => .reg r
  | 1 => .ind r
  | 2 => if r = 0 then .direct else .indexed r
  | _ => .autoInc r

/-- The six bits of a general operand. -/
def Operand.code : Operand → BitVec 6
  | .reg r => 0b00#2 ++ r
  | .ind r => 0b01#2 ++ r
  | .direct => 0b100000#6
  | .indexed r => 0b10#2 ++ r
  | .autoInc r => 0b11#2 ++ r

/-- Operand field Ts, S in bits 5..0 (formats F1, F3, F4, F6). -/
def srcField (w : Word) : Operand := Operand.decode (w.extractLsb' 0 6)

/-- Operand field Td, D in bits 11..6 (format F1). -/
def dstField (w : Word) : Operand := Operand.decode (w.extractLsb' 6 6)

/-- Field W or C in bits 9..6 (formats F3, F4). -/
def regField (w : Word) : BitVec 4 := w.extractLsb' 6 4

/-- Rows 0x0200 to 0x03E0 (formats F7, F8, F9), by bits 11..4; RSET, CKON, CKOF and LREX only where the part has
them (R122, R283). -/
def decodeInternal (p : Part) (w : Word) : Option Instr :=
  let r : Reg := w.extractLsb' 0 4
  let fixed (i : Instr) : Option Instr := if r = 0 then some i else none
  let external (i : Instr) : Option Instr := if p = .tms9940 then none else fixed i
  match (w.extractLsb' 4 8).toNat with
  | 0x20 => some (.li r)
  | 0x22 => some (.ai r)
  | 0x24 => some (.andi r)
  | 0x26 => some (.ori r)
  | 0x28 => some (.ci r)
  | 0x2A => some (.stwp r)
  | 0x2C => some (.stst r)
  | 0x2E => fixed .lwpi
  | 0x30 => fixed .limi
  | 0x34 => fixed .idle
  | 0x36 => external .rset
  | 0x38 => fixed .rtwp
  | 0x3A => external .ckon
  | 0x3C => external .ckof
  | 0x3E => external .lrex
  | _ => none

/-- Rows 0x0400 to 0x0740 (format F6), by bits 11..6. -/
def decodeSingle (w : Word) : Option Instr :=
  let o := srcField w
  match (w.extractLsb' 6 6).toNat with
  | 0x10 => some (.blwp o)
  | 0x11 => some (.b o)
  | 0x12 => some (.x o)
  | 0x13 => some (.clr o)
  | 0x14 => some (.neg o)
  | 0x15 => some (.inv o)
  | 0x16 => some (.inc o)
  | 0x17 => some (.inct o)
  | 0x18 => some (.dec o)
  | 0x19 => some (.dect o)
  | 0x1A => some (.bl o)
  | 0x1B => some (.swpb o)
  | 0x1C => some (.seto o)
  | 0x1D => some (.abs o)
  | _ => none

/-- Words 0x0000 to 0x0FFF, by bits 11..8: shifts (format F5) are here. -/
def decodeLow (p : Part) (w : Word) : Option Instr :=
  let cnt : BitVec 4 := w.extractLsb' 4 4
  let r : Reg := w.extractLsb' 0 4
  match (w.extractLsb' 8 4).toNat with
  | 2 => decodeInternal p w
  | 3 => decodeInternal p w
  | 4 => decodeSingle w
  | 5 => decodeSingle w
  | 6 => decodeSingle w
  | 7 => decodeSingle w
  | 8 => some (.sra cnt r)
  | 9 => some (.srl cnt r)
  | 10 => some (.sla cnt r)
  | 11 => some (.src cnt r)
  | _ => none

/-- Words 0x1000 to 0x1FFF (format F2), by bits 11..8. -/
def decodeJump (w : Word) : Option Instr :=
  let d : BitVec 8 := w.extractLsb' 0 8
  match (w.extractLsb' 8 4).toNat with
  | 0 => some (.jmp d)
  | 1 => some (.jlt d)
  | 2 => some (.jle d)
  | 3 => some (.jeq d)
  | 4 => some (.jhe d)
  | 5 => some (.jgt d)
  | 6 => some (.jne d)
  | 7 => some (.jnc d)
  | 8 => some (.joc d)
  | 9 => some (.jno d)
  | 10 => some (.jl d)
  | 11 => some (.jh d)
  | 12 => some (.jop d)
  | 13 => some (.sbo d)
  | 14 => some (.sbz d)
  | _ => some (.tb d)

/-- Words 0x2C00 to 0x2FFF: XOP, but on the TMS 9940 DCA, DCS and LIIM take the words with W = 0 to 3 (R122, R284). -/
def decodeXop (p : Part) (w : Word) : Option Instr :=
  if p = .tms9940 then
    match (regField w).toNat with
    | 0 => some (.dca (srcField w))
    | 1 => some (.dcs (srcField w))
    | 2 => some (.liim (w.extractLsb' 2 5) (w.extractLsb' 0 2))
    | 3 => some (.liim (w.extractLsb' 2 5) (w.extractLsb' 0 2))
    | _ => some (.xop (regField w) (srcField w))
  else some (.xop (regField w) (srcField w))

/-- Words 0x2000 to 0x3FFF (formats F3, F4), by bits 12..10. -/
def decodeRegister (p : Part) (w : Word) : Option Instr :=
  let r := regField w
  let o := srcField w
  match (w.extractLsb' 10 3).toNat with
  | 0 => some (.coc r o)
  | 1 => some (.czc r o)
  | 2 => some (.xor r o)
  | 3 => decodeXop p w
  | 4 => some (.ldcr r o)
  | 5 => some (.stcr r o)
  | 6 => some (.mpy r o)
  | _ => some (.div r o)

/-- The row of R120 the word is in, with its fields, for the part. -/
def decodeRow (p : Part) (w : Word) : Option Instr :=
  let s := srcField w
  let d := dstField w
  match (w.extractLsb' 12 4).toNat with
  | 0 => decodeLow p w
  | 1 => decodeJump w
  | 2 => decodeRegister p w
  | 3 => decodeRegister p w
  | 4 => some (.szc s d)
  | 5 => some (.szcb s d)
  | 6 => some (.s s d)
  | 7 => some (.sb s d)
  | 8 => some (.c s d)
  | 9 => some (.cb s d)
  | 10 => some (.a s d)
  | 11 => some (.ab s d)
  | 12 => some (.mov s d)
  | 13 => some (.movb s d)
  | 14 => some (.soc s d)
  | _ => some (.socb s d)

/-- The decoder of one instruction word (R132): a word of no row is rejected by name (R130). -/
def decode (p : Part) (w : Word) : Except Reject Instr :=
  match decodeRow p w with
  | some i => .ok i
  | none => .error (.undefinedOpcode w)

/-- The decoder on bytes as memory holds them, high-order byte first (R62): the instruction and the bytes after its
instruction word. Extension words are fetched by the execution (R77, R132), never by the decoder. -/
def decodeBytes (p : Part) : List Byte → Except Reject (Instr × List Byte)
  | hi :: lo :: rest =>
    match decode p (hi ++ lo) with
    | .ok i => .ok (i, rest)
    | .error e => .error e
  | _ => .error .truncated

/-- The instruction word of an instruction, from the match values and formats of R103 and R120. -/
def encode : Instr → Word
  | .li w => 0x020#12 ++ w
  | .ai w => 0x022#12 ++ w
  | .andi w => 0x024#12 ++ w
  | .ori w => 0x026#12 ++ w
  | .ci w => 0x028#12 ++ w
  | .stwp w => 0x02A#12 ++ w
  | .stst w => 0x02C#12 ++ w
  | .lwpi => 0x02E0
  | .limi => 0x0300
  | .idle => 0x0340
  | .rset => 0x0360
  | .rtwp => 0x0380
  | .ckon => 0x03A0
  | .ckof => 0x03C0
  | .lrex => 0x03E0
  | .blwp o => 0x010#10 ++ o.code
  | .b o => 0x011#10 ++ o.code
  | .x o => 0x012#10 ++ o.code
  | .clr o => 0x013#10 ++ o.code
  | .neg o => 0x014#10 ++ o.code
  | .inv o => 0x015#10 ++ o.code
  | .inc o => 0x016#10 ++ o.code
  | .inct o => 0x017#10 ++ o.code
  | .dec o => 0x018#10 ++ o.code
  | .dect o => 0x019#10 ++ o.code
  | .bl o => 0x01A#10 ++ o.code
  | .swpb o => 0x01B#10 ++ o.code
  | .seto o => 0x01C#10 ++ o.code
  | .abs o => 0x01D#10 ++ o.code
  | .sra cnt w => 0x08#8 ++ cnt ++ w
  | .srl cnt w => 0x09#8 ++ cnt ++ w
  | .sla cnt w => 0x0A#8 ++ cnt ++ w
  | .src cnt w => 0x0B#8 ++ cnt ++ w
  | .jmp d => 0x10#8 ++ d
  | .jlt d => 0x11#8 ++ d
  | .jle d => 0x12#8 ++ d
  | .jeq d => 0x13#8 ++ d
  | .jhe d => 0x14#8 ++ d
  | .jgt d => 0x15#8 ++ d
  | .jne d => 0x16#8 ++ d
  | .jnc d => 0x17#8 ++ d
  | .joc d => 0x18#8 ++ d
  | .jno d => 0x19#8 ++ d
  | .jl d => 0x1A#8 ++ d
  | .jh d => 0x1B#8 ++ d
  | .jop d => 0x1C#8 ++ d
  | .sbo d => 0x1D#8 ++ d
  | .sbz d => 0x1E#8 ++ d
  | .tb d => 0x1F#8 ++ d
  | .coc w o => 0b001000#6 ++ w ++ o.code
  | .czc w o => 0b001001#6 ++ w ++ o.code
  | .xor w o => 0b001010#6 ++ w ++ o.code
  | .xop n o => 0b001011#6 ++ n ++ o.code
  | .ldcr cnt o => 0b001100#6 ++ cnt ++ o.code
  | .stcr cnt o => 0b001101#6 ++ cnt ++ o.code
  | .mpy w o => 0b001110#6 ++ w ++ o.code
  | .div w o => 0b001111#6 ++ w ++ o.code
  | .szc s d => 0x4#4 ++ d.code ++ s.code
  | .szcb s d => 0x5#4 ++ d.code ++ s.code
  | .s s d => 0x6#4 ++ d.code ++ s.code
  | .sb s d => 0x7#4 ++ d.code ++ s.code
  | .c s d => 0x8#4 ++ d.code ++ s.code
  | .cb s d => 0x9#4 ++ d.code ++ s.code
  | .a s d => 0xA#4 ++ d.code ++ s.code
  | .ab s d => 0xB#4 ++ d.code ++ s.code
  | .mov s d => 0xC#4 ++ d.code ++ s.code
  | .movb s d => 0xD#4 ++ d.code ++ s.code
  | .soc s d => 0xE#4 ++ d.code ++ s.code
  | .socb s d => 0xF#4 ++ d.code ++ s.code
  | .dca o => 0x0B0#10 ++ o.code
  | .dcs o => 0x0B1#10 ++ o.code
  | .liim x n => 0b001011001#9 ++ x ++ n

/-- The bytes of the instruction word as memory holds them (R62). -/
def encodeBytes (i : Instr) : List Byte := [(encode i).extractLsb' 8 8, (encode i).extractLsb' 0 8]

/-- The part by which a row of the opcode table is read: the words of DCA, DCS and LIIM belong to the TMS 9940, and all
others are read as the TMS 9900 and TMS 9980 read them (R122). Log entry 41. -/
def tablePart (w : Word) : Part := if w.extractLsb' 8 8 = 0x2C#8 then .tms9940 else .tms9900

/-- The first word of an instruction whose bits are `w`, numbered from the least significant bit of the first word. -/
def tableWord (nbits w : Nat) : Word := BitVec.ofNat 16 (w % 2 ^ nbits)

/-- The instruction the decoder reads from the bytes of the bits `w` of a row of the opcode table. -/
def decodeTableWord (nbits w : Nat) : Option Instr :=
  let w0 := tableWord nbits w
  match decodeBytes (tablePart w0) [w0.extractLsb' 8 8, w0.extractLsb' 0 8] with
  | .ok (i, _) => some i
  | .error _ => none

end Sys2Proof
end

