-- ==== Sys2Proof/Machine/State.lean ====
section
/-! DEFINITION. The state of the machine as plain data (R7, R20, R43), the inputs it reads, the devices it reaches, and
the reasons a step can stop. -/

namespace Sys2Proof.Machine

/-- Memory: the bytes that are not 0, addresses strictly rising; an address that is not listed reads as 0x00
(DESIGN CHOICE, unsafe: log entry 2). -/
abbrev Memory := List Host.Cell

/-- What stands at an address (R74). -/
inductive RegionKind where
  | ram
  | rom
  /-- a memory-mapped device, whose behaviour the spec does not give (R76) -/
  | device
  | absent
deriving DecidableEq, Repr

/-- One row of MEM_MAP (R74): the byte addresses from `base` on, `size` of them. -/
structure Region where
  base : Nat
  size : Nat
  kind : RegionKind
deriving DecidableEq, Repr

/-- The instructions that compute with `ArithFlags` (R170): the members AC_WRITERS can have (D20). -/
inductive ArithOp where
  | a
  | ab
  | s
  | sb
  | ai
  | inc
  | inct
  | dec
  | dect
  | neg
deriving DecidableEq, Repr

/-- One value of DCA_FN or DCS_FN: the result and the carry for a byte, C and AC (R280, R281). -/
structure BcdRow where
  byte : Byte
  c : Bool
  ac : Bool
  result : Byte
  carry : Bool
deriving DecidableEq, Repr

/-- UNDEFINED_OPCODE, the treatment of a word of no row (R130, D11). -/
inductive UndefinedRule where
  /-- the default: `raise UndefinedOpcode(w)` -/
  | refuse
  /-- the word does nothing -/
  | noOperation
  /-- the word is executed as the word with only the bits of `keep` and then those of `set`; where that is undefined
  too, it is refused -/
  | executeAs (keep set : Word)
deriving DecidableEq, Repr

/-- What happens outside the CPU at any time, between two bus cycles of an instruction too (R310, R371, R375 to R377,
R83, R391 to R396). -/
inductive DevEvent where
  | int1 (level : Bool)
  | int2 (level : Bool)
  /-- new levels on P0 to P31 of a TMS 9940 -/
  | pins (levels : BitVec 32)
  /-- 30 internal clock oscillations have passed on a TMS 9940 (R376) -/
  | oscTick
  /-- a bit received on TD, clocked by TC (R377) -/
  | mpsiBit (b : Bool)
  /-- external CRU input bit `a` takes a level, or holds none any more -/
  | cruLine (a : Nat) (level : Option Bool)
  /-- bit `k` of the state of CRU device number `u` changes from outside (R83) -/
  | cruState (u k : Nat) (b : Bool)
  /-- a level driven on INT1 (0) to INT6 (5) of TMS 9901 number `u` -/
  | psiInt (u : Nat) (k : Fin 6) (level : Bool)
  /-- a level driven on P0 to P15 of TMS 9901 number `u` -/
  | psiP (u : Nat) (k : Fin 16) (level : Bool)
  /-- 64 clock periods have passed on TMS 9901 number `u` (R394) -/
  | psiTick (u : Nat)
  /-- RST1 of TMS 9901 number `u` has been low (R396) -/
  | psiReset (u : Nat)
deriving DecidableEq, Repr

/-- What the logic of the system can do to the CPU's inputs and to the devices (R7, R310). `low` is true for an
active-low line that goes low. -/
inductive PlatformEvent where
  | resetLine (low : Bool)
  | loadLine (low : Bool)
  | intReq (code : Option (BitVec 4))
  | intCode (code : BitVec 3)
  | holdLine (low : Bool)
  | dev (e : DevEvent)
deriving DecidableEq, Repr

/-- A reaction of the system to an external-instruction code (R276, D28): what it does in the cycle itself, and what it
does before each of the steps that follow, one batch a step. -/
structure ExtReaction where
  code : BitVec 3
  now : List PlatformEvent
  later : List (List PlatformEvent)
deriving DecidableEq, Repr

/-- The parameters of the system (R3; 92_eei_decisions.md section 1), which no step changes. CRU_MAP is in `Devices`,
since its devices have state. -/
structure Platform where
  /-- PART (R2) -/
  part : Part
  /-- MEM_MAP (R74) for the TMS 9900 and TMS 9980; an address in no region is RAM. The TMS 9940's map is R75's. -/
  memMap : List Region
  /-- RESET_ST_FLAGS (D7): true is the identity, false the constant 0. -/
  keepResetFlags : Bool
  /-- AC_WRITERS (D20): the instructions that write AC on the TMS 9940 -/
  acWriters : List ArithOp
  /-- DCA_FN (D21): the values that differ from the default function's -/
  dcaRows : List BcdRow
  /-- DCS_FN (D21): the values that differ from the default function's -/
  dcsRows : List BcdRow
  /-- UNDEFINED_OPCODE (D11) -/
  undefinedRule : UndefinedRule
  /-- EXT_CTL (D28): the reactions to external-instruction codes; none to a code that has no row -/
  extCtl : List ExtReaction
deriving DecidableEq, Repr

/-- The levels on the input pins, as last driven (R310, R312, R320, R325, R331, R360, R371, R375). -/
structure Pins where
  /-- RESET (TMS 9900) or RST/PE (TMS 9940) is low -/
  reset : Bool
  /-- LOAD is low (TMS 9900) -/
  load : Bool
  /-- INTREQ with IC0 to IC3 (TMS 9900): none when INTREQ is high -/
  intReq : Option (BitVec 4)
  /-- INT0 to INT2 (TMS 9980), INT0 the most significant -/
  intCode : BitVec 3
  /-- level at INT1 (TMS 9940), low requesting -/
  int1 : Bool
  /-- level at INT2 (TMS 9940), low requesting -/
  int2 : Bool
  /-- HOLD is low (TMS 9900, TMS 9980; the TMS 9940 has HLD at P14) -/
  hold : Bool
  /-- levels that external logic drives on P0 to P31 (TMS 9940); with CB3 set P14 is HLD, low requesting (R374) -/
  p : BitVec 32
deriving DecidableEq, Repr

/-- The TMS 9940's on-chip devices (R373 to R379). -/
structure OnChip where
  /-- configuration bits CB0 to CB3 (R374) -/
  cb : BitVec 4
  /-- direction bits of P0 to P31, 1 for output (R375) -/
  dir : BitVec 32
  /-- output latches of P0 to P31 (R375) -/
  out : BitVec 32
  /-- general purpose flags (R379) -/
  flags : BitVec 16
  /-- decrementer (R376) -/
  dec : BitVec 14
  /-- decrementer buffer (R376) -/
  decbuf : BitVec 14
  /-- CRU 0x19E: timer (true) or event counter (R376) -/
  timer : Bool
  /-- decrementer interrupt latch (R376) -/
  decint : Bool
  /-- multiprocessor system interface buffer (R377) -/
  mpsi : BitVec 16
deriving DecidableEq, Repr

/-- A TMS 9901 programmable system interface (R390 to R396). -/
structure Psi where
  /-- PSIBASE / 32 (R390) -/
  slot : Nat
  /-- its INTREQ and IC0 to IC3 are the TMS 9900's (R392) -/
  wired : Bool
  /-- select bit, true for clock mode -/
  sel : Bool
  /-- interrupt mask bits 1 to 15 -/
  mask : BitVec 16
  /-- output-mode flags of P0 to P15 -/
  om : BitVec 16
  /-- output latches of P0 to P15 -/
  ol : BitVec 16
  /-- Clock Load Buffer -/
  clkload : BitVec 14
  /-- Clock Counter -/
  clkctr : BitVec 14
  /-- Clock Read Buffer -/
  clkread : BitVec 14
  /-- clock interrupt latch -/
  clkint : Bool
  /-- the last level seen on select line S0 (R395) -/
  s0 : Bool
  /-- levels driven on INT1 (bit 0) to INT6 (bit 5) -/
  intIn : BitVec 6
  /-- levels external logic drives on P0 to P15 -/
  pIn : BitVec 16
deriving DecidableEq, Repr

/-- A function of a CRU device, of its state and the level on CRUOUT (R83). -/
inductive CruLogic where
  | const (b : Bool)
  /-- bit `k` of the device's state -/
  | bit (k : Nat)
  /-- the level on CRUOUT -/
  | data
  | not (x : CruLogic)
  | and (x y : CruLogic)
  | or (x y : CruLogic)
deriving DecidableEq, Repr

/-- One CRU address a device decodes: the level it drives there, if it drives one, and the bits of its state that a
`CruOut` there changes (R83). -/
structure CruPort where
  addr : Nat
  input : Option CruLogic
  output : List (Nat × CruLogic)
deriving DecidableEq, Repr

/-- A device of CRU_MAP other than a TMS 9901 (R83): its state and the addresses it decodes. -/
structure CruDevice where
  bits : List Bool
  ports : List CruPort
deriving DecidableEq, Repr

/-- What the outside sees on the bus, besides memory (R82, R85, R377, R76; D28, D29). -/
inductive BusEvent where
  /-- CruOut(a, b) -/
  | cruOut (a : Nat) (b : Bool)
  /-- CruIn(a) -/
  | cruIn (a : Nat)
  /-- ExtCtl(code) -/
  | extCtl (code : BitVec 3)
  /-- a read cycle at a byte of a device window (TMS 9980) -/
  | devRead (a : Nat)
  /-- a write cycle at a byte of a device window (TMS 9980) -/
  | devWrite (a : Nat) (b : Byte)
  /-- a read cycle at a word of a device window (TMS 9900), bit 0 of its address not output (R61) -/
  | devReadWord (a : Nat)
  /-- a write cycle at a word of a device window (TMS 9900) -/
  | devWriteWord (a : Nat) (v : Word)
  /-- a bit sent on TD (TMS 9940) -/
  | mpsiTx (b : Bool)
deriving DecidableEq, Repr

/-- Everything outside the CPU proper and memory. -/
structure Devices where
  pins : Pins
  /-- RESET has been released, and its sequence is due (`reset_req`, R310, R320) -/
  resetDue : Bool
  chip : OnChip
  /-- CRU_MAP: the TMS 9901s of the system (R83, R390) -/
  psi : List Psi
  /-- CRU_MAP: the other devices (R83) -/
  cruDevices : List CruDevice
  /-- CRU_MAP: external CRU input bits that hold a level, and their levels (R83) -/
  cruLines : List (Nat × Bool)
  /-- the model's own: the TMS 9901 and the pin that external logic drove while it was in output mode (U15) -/
  misdriven : Option (Nat × Fin 16)
  /-- the bus events so far, newest first: the model's own record (log entry 31) -/
  log : List BusEvent
deriving DecidableEq, Repr

/-- What can happen between two bus cycles of an instruction (R78, R331, R376, D10). A DMA access there stands for a
Hold that begins and ends between the two cycles (log entry 34). -/
inductive MidEvent where
  | dev (e : DevEvent)
  /-- another bus master writes: a word on the TMS 9900, the low byte of `v` on the TMS 9980 -/
  | dmaWrite (a v : Word)
  /-- another bus master reads -/
  | dmaRead (a : Word)
deriving DecidableEq, Repr

/-- What happens before a step (R7, R310). -/
inductive Event where
  | platform (e : PlatformEvent)
  /-- VCC2 was off while the TMS 9940 was idle (R378) -/
  | standby
  /-- another bus master writes while the CPU holds (R78, R331): a word on the TMS 9900, the low byte of `v` on the
  TMS 9980 -/
  | dmaWrite (a v : Word)
  /-- another bus master reads while the CPU holds -/
  | dmaRead (a : Word)
  /-- a byte is put into memory from outside, before a program runs (R412; log entry 40) -/
  | hostLoad (a : Word) (b : Byte)
  /-- a TMS 9940 program loaded through TST starts (R413) -/
  | testStart (start : Word)
deriving DecidableEq, Repr

/-- Faults. None: the hardware raises no synchronous exception (R301), and a memory access never fails (R74). -/
inductive Fault where
deriving DecidableEq, Repr

/-- Reasons the model gives no successor state. -/
inductive Refusal where
  /-- Raised by an arm of `exec` that has no meaning yet; no arm is left that does. Safe. -/
  | notModelled (mnemonic : String)
  /-- Raised by `refuseWord`: the word matches no row of the opcode table for the part, and UNDEFINED_OPCODE gives it no
  meaning (R130, U5, D11). Safe. -/
  | undefinedOpcode (w : Word)
  /-- Raised by `settle`: external logic has driven pin Pk of TMS 9901 number `u` while it was in output mode (R393,
  U15). Safe. -/
  | psiOutputDriven (u : Nat) (k : Fin 16)
deriving DecidableEq, Repr

/-- The machine. Workspace registers are no fields: they are memory (R22). -/
structure State where
  /-- the parameters of the system -/
  cfg : Platform
  /-- Program Counter (R25) -/
  pc : Word
  /-- Workspace register (R21) -/
  wp : Word
  /-- Status register (R28) -/
  st : Word
  /-- set by IDLE (R340) -/
  halted : Bool
  /-- the next instruction runs before LOAD and interrupts are tested (R314) -/
  inhibit : Bool
  /-- the model's own: a word X has read that is still to be executed (R270; log entry 21) -/
  xword : Option Word
  /-- the bytes of the address space (R60, R61) -/
  mem : Memory
  /-- inputs and devices -/
  dev : Devices
  /-- the model's own: how many free values have been used (log entry 8) -/
  free : Nat
  /-- the model's own: the inputs still to come, one batch a step (log entry 32) -/
  env : List (List Event)
  /-- the model's own: what happens before each of the bus cycles to come, one batch a cycle (R78, R331, R376; log entry
  48) -/
  during : List (List MidEvent)
deriving DecidableEq, Repr

/-- No line asserted (92_eei_decisions.md section 1: "none asserted"). Log entry 7. -/
def Pins.idle : Pins :=
  { reset := false, load := false, intReq := none, intCode := 7#3, int1 := true, int2 := true, hold := false,
    p := 0xFFFFFFFF }

/-- The on-chip devices at reset: configuration and direction bits 0 (R372, D32); the rest DESIGN CHOICE 0, unsafe: log
entry 5. -/
def OnChip.reset : OnChip :=
  { cb := 0, dir := 0, out := 0, flags := 0, dec := 0, decbuf := 0, timer := false, decint := false, mpsi := 0 }

/-- Inputs and devices at reset: the default CRU_MAP is empty. Log entries 6, 7. -/
def Devices.reset : Devices :=
  { pins := Pins.idle, resetDue := false, chip := OnChip.reset, psi := [], cruDevices := [], cruLines := [],
    misdriven := none, log := [] }

/-- The parameters at their defaults (92_eei_decisions.md section 1): all memory RAM, flags cleared by RESET, A, AB, S
and SB writing AC, the decimal adjusts of R280 and R281, undefined words refused, no reaction to external-instruction
codes. Log entries 4, 9, 23, 26, 27, 45. -/
def Platform.default (p : Part) : Platform :=
  { part := p, memMap := [], keepResetFlags := false, acWriters := [.a, .ab, .s, .sb], dcaRows := [], dcsRows := [],
    undefinedRule := .refuse, extCtl := [] }

/-- The machine of a part right after the RESET sequence (R43), with memory holding nothing and the prior `pc`, `wp` and
`st` 0 (log entries 2 and 3): the reset vector reads 0, and the words stored in R13 to R15 are 0. -/
def State.resetOn (p : Part) : State :=
  { cfg := Platform.default p
    pc := 0, wp := 0, st := 0, halted := false, inhibit := true, xword := none
    mem := [], dev := Devices.reset, free := 0, env := [], during := [] }

/-- The machine right after reset (R43). The part is the TMS 9900: DESIGN CHOICE, log entry 1. -/
def State.reset : State := State.resetOn .tms9900

end Sys2Proof.Machine
end

