-- ==== Sys2Proof/Machine/Bits.lean ====
section
/-! DEFINITION. Bit helpers. -/

namespace Sys2Proof.Machine

/-- `v` with bit `k` replaced by `b`. -/
def withBit {w : Nat} (v : BitVec w) (k : Nat) (b : Bool) : BitVec w :=
  if b then v ||| BitVec.twoPow w k else v &&& ~~~BitVec.twoPow w k

/-- The even address at or below an address (R26, R42, R64). -/
def even (a : Word) : Word := a &&& 0xFFFE#16

/-- `parity_odd` (R38): the byte has an odd number of 1 bits. -/
def parityOdd (b : Byte) : Bool :=
  (List.range 8).foldl (fun acc k => acc ^^ b.getLsbD k) false

end Sys2Proof.Machine
end

