-- ==== Sys2Proof/Machine/Psi.lean ====
section
/-! DEFINITION. The TMS 9901 programmable system interface (R390 to R396). -/

namespace Sys2Proof.Machine

/-- The level at pin Pk: the latch of a pin in output mode, else what external logic drives (R391, R393). -/
def Psi.pinP (p : Psi) (k : Nat) : Bool := if p.om.getLsbD k then p.ol.getLsbD k else p.pIn.getLsbD k

/-- The level at pin INTk, k = 1 to 15: INT7 to INT15 are the pins P15 to P7 (R391). -/
def Psi.pinInt (p : Psi) (k : Nat) : Bool := if k ≤ 6 then p.intIn.getLsbD (k - 1) else p.pinP (22 - k)

/-- Request k is present and enabled (R392). -/
def Psi.active (p : Psi) (k : Nat) : Bool :=
  (!p.pinInt k || (k == 3 && p.clkint)) && p.mask.getLsbD k

/-- The code on IC0 to IC3 while INTREQ is low, none while INTREQ is high (R392). -/
def Psi.irq (p : Psi) : Option (BitVec 4) :=
  ((List.range' 1 15).find? p.active).map (BitVec.ofNat 4)

/-- `InClockMode()` (R395). -/
def Psi.clockMode (p : Psi) : Bool := p.sel && !p.s0

/-- `q` is the device after a change of `p`; leaving clock mode copies the counter to the read buffer (R395). -/
def Psi.leave (p q : Psi) : Psi :=
  if p.clockMode && !q.clockMode then { q with clkread := q.clkctr } else q

/-- Select line S0 takes a level (R395). -/
def Psi.seeS0 (p : Psi) (line : Bool) : Psi := p.leave { p with s0 := line }

/-- CRU read of bit `b` of the device (R391, D33). -/
def Psi.readBit (p : Psi) (b : Nat) : Bool :=
  if b = 0 then p.sel
  else if b < 16 then
    if p.sel then (if b = 15 then p.irq.isSome else p.clkread.getLsbD (b - 1)) else p.pinInt b
  else p.pinP (b - 16)

/-- Device reset (R396). What R396 leaves unspecified (U3) takes free values, the first of them number `n`; inputs keep
their levels. Log entry 6. -/
def Psi.doReset (p : Psi) (n : Nat) : Psi :=
  { p with
    mask := 0
    om := 0
    sel := Config.freeBit n
    ol := Config.freeWord (n + 1)
    clkload := (Config.freeWord (n + 2)).setWidth 14
    clkctr := (Config.freeWord (n + 3)).setWidth 14
    clkread := (Config.freeWord (n + 4)).setWidth 14
    clkint := Config.freeBit (n + 5) }

/-- How many free values a device reset uses. -/
def Psi.resetFree : Nat := 6

/-- The write resets the device: RST2, a 0 written to bit 15 in clock mode (R391, R396). -/
def Psi.isReset (p : Psi) (b : Nat) (v : Bool) : Bool := b == 15 && p.sel && !v

/-- CRU write of bit `b` of the device (R391, R393 to R395), other than RST2. -/
def Psi.writeBit (p : Psi) (b : Nat) (v : Bool) : Psi :=
  if b = 0 then p.leave { p with sel := v }
  else if b < 16 then
    if p.sel then
      if b = 15 then p
      else
        let load := withBit p.clkload (b - 1) v
        { p with clkload := load, clkctr := load }
    else { p with mask := withBit p.mask b v, clkint := p.clkint && b != 3 }
  else { p with ol := withBit p.ol (b - 16) v, om := withBit p.om (b - 16) true }

/-- `ClkTick()` (R394); no clock interrupt while the load buffer is 0 (D33). -/
def Psi.tick (p : Psi) : Psi :=
  let c := p.clkctr - 1
  let q : Psi :=
    if c = 0 then { p with clkctr := p.clkload, clkint := p.clkint || p.clkload != 0 } else { p with clkctr := c }
  if q.clockMode then q else { q with clkread := q.clkctr }

end Sys2Proof.Machine
end

