-- ==== Sys2Proof/Machine/CruDevice.lean ====
section
/-! DEFINITION. The devices of CRU_MAP (R83): which answers a CRU address, with what level, and what a write does. -/

namespace Sys2Proof.Machine

/-- The value of a device's function, for its state and the level on CRUOUT. -/
def CruLogic.eval (bits : List Bool) (data : Bool) : CruLogic → Bool
  | .const b => b
  | .bit k => bits.getD k false
  | .data => data
  | .not x => !CruLogic.eval bits data x
  | .and x y => CruLogic.eval bits data x && CruLogic.eval bits data y
  | .or x y => CruLogic.eval bits data x || CruLogic.eval bits data y

/-- The level the device drives on CRUIN at an address, if it drives one there. -/
def CruDevice.level (d : CruDevice) (a : Nat) : Option Bool :=
  d.ports.findSome? fun p => if p.addr = a then p.input.map (CruLogic.eval d.bits false) else none

/-- The device takes a `CruOut`: the bits its ports change at that address, each from the state before. -/
def CruDevice.take (d : CruDevice) (a : Nat) (b : Bool) : CruDevice :=
  let changes := (d.ports.filter fun p => p.addr == a).flatMap CruPort.output
  { d with bits := changes.foldl (fun bits c => bits.set c.1 (CruLogic.eval d.bits b c.2)) d.bits }

/-- A TMS 9901 takes a `CruOut` in its 32 addresses (R390, R391, R396); `n` is the number of its free values, should
it be reset. -/
def Psi.take (p : Psi) (a : Nat) (b : Bool) (n : Nat) : Psi :=
  if a / 32 = p.slot then
    if p.isReset (a % 32) b then p.doReset n else p.writeBit (a % 32) b
  else p

/-- The TMS 9901s of a system after a `CruOut`, each with free values of its own from number `n` on. -/
def psiTake (a : Nat) (b : Bool) : Nat → List Psi → List Psi
  | _, [] => []
  | n, p :: ps => p.take a b n :: psiTake a b (n + Psi.resetFree) ps

/-- The level the external CRU lines hold a bit at, none where they hold none (R83). -/
def lineLevel : List (Nat × Bool) → Nat → Option Bool
  | [], _ => none
  | (k, v) :: m, a => if k = a then some v else lineLevel m a

/-- The held external CRU lines with bit `a` given a level, or none any more (R83). -/
def setLine : List (Nat × Bool) → Nat → Option Bool → List (Nat × Bool)
  | m, a, none => m.filter (fun c => c.1 != a)
  | m, a, some b => (a, b) :: m.filter (fun c => c.1 != a)

/-- What drives CRUIN at an external address (R83, R391): a TMS 9901 in its 32 addresses, else another device, else a
held line; none where nothing does. -/
def Devices.cruLevel (d : Devices) (a : Nat) : Option Bool :=
  match d.psi.find? fun p => a / 32 == p.slot with
  | some p => some (p.readBit (a % 32))
  | none =>
    match d.cruDevices.findSome? fun c => c.level a with
    | some b => some b
    | none => lineLevel d.cruLines a

/-- The devices after a `CruOut` on the external lines; `n` is the number of the first free value. -/
def Devices.cruTake (d : Devices) (a : Nat) (b : Bool) (n : Nat) : Devices :=
  { d with psi := psiTake a b n d.psi, cruDevices := d.cruDevices.map fun c => c.take a b }

end Sys2Proof.Machine
end

