-- ==== Sys2Proof/Machine/OnChip.lean ====
section
/-! DEFINITION. The TMS 9940's on-chip devices, as far as they need no free value (R373 to R379). -/

namespace Sys2Proof.Machine

/-- CB0 to CB3 (R374). -/
def OnChip.cbit (c : OnChip) (k : Nat) : Bool := c.cb.getLsbD k

/-- Pin Pk is in a special function, so that what CRU accesses do to it is not stated (R374). -/
def OnChip.special (c : OnChip) (k : Nat) : Bool :=
  if k ≤ 10 then c.cbit 0
  else if k ≤ 12 then c.cbit 1
  else if k = 13 then c.cbit 2
  else if k ≤ 16 then c.cbit 3
  else false

/-- P17 is the event counter input EC: the decrementer is an event counter, and not disabled (R374, R376). -/
def OnChip.counting (c : OnChip) : Bool := !c.timer && c.decbuf != 0

/-- The level at pin Pk that is in no special output function: the latch of an output pin, else what external logic
drives; EC is an input whatever its direction bit is (R374, R375). -/
def OnChip.pinLevel (c : OnChip) (driven : BitVec 32) (k : Nat) : Bool :=
  if c.dir.getLsbD k && !(k == 17 && c.counting) then c.out.getLsbD k else driven.getLsbD k

/-- `DecTick()` (R376). -/
def OnChip.decTick (c : OnChip) : OnChip :=
  if c.decbuf = 0 then c
  else
    let d := c.dec - 1
    if d = 0 then { c with dec := c.decbuf, decint := true } else { c with dec := d }

/-- 30 internal clock oscillations: a tick of the timer (R376). -/
def OnChip.oscTick (c : OnChip) : OnChip := if c.timer then c.decTick else c

/-- New levels on the pins: a rising edge at P17 is a tick of the event counter (R376). -/
def OnChip.edge (c : OnChip) (old new : BitVec 32) : OnChip :=
  if !c.timer && !old.getLsbD 17 && new.getLsbD 17 then c.decTick else c

/-- A bit received on TD enters the buffer at the top, when CB1 is 1 (R377). -/
def OnChip.receive (c : OnChip) (b : Bool) : OnChip :=
  if c.cbit 1 then { c with mpsi := withBit (c.mpsi >>> 1) 15 b } else c

/-- CRU reads of the chip that have a stated value, none for the others (R373, R375, R376, R379). -/
def OnChip.readBit (c : OnChip) (pins : Pins) (a : Nat) : Option Bool :=
  if a = 0x180 then some pins.int1
  else if a = 0x181 then some c.decint
  else if a = 0x182 then some pins.int2
  else if 0x190 ≤ a ∧ a ≤ 0x19D then some (c.dec.getLsbD (a - 0x190))
  else if 0x1A0 ≤ a ∧ a ≤ 0x1AF then some (c.mpsi.getLsbD (a - 0x1A0))
  else if 0x1B0 ≤ a ∧ a ≤ 0x1BF then some (c.flags.getLsbD (a - 0x1B0))
  else if 0x1E0 ≤ a ∧ a ≤ 0x1FF then
    if c.special (a - 0x1E0) then none else some (c.pinLevel pins.p (a - 0x1E0))
  else none

/-- CRU writes of the chip (R373 to R377, R379). -/
def OnChip.writeBit (c : OnChip) (a : Nat) (b : Bool) : OnChip :=
  if a = 0x181 then { c with decint := false }
  else if 0x183 ≤ a ∧ a ≤ 0x186 then { c with cb := withBit c.cb (a - 0x183) b }
  else if 0x190 ≤ a ∧ a ≤ 0x19D then
    { c with dec := withBit c.dec (a - 0x190) b, decbuf := withBit c.decbuf (a - 0x190) b }
  else if a = 0x19E then { c with timer := b }
  else if 0x1A0 ≤ a ∧ a ≤ 0x1AF then { c with mpsi := withBit c.mpsi (a - 0x1A0) b }
  else if 0x1B0 ≤ a ∧ a ≤ 0x1BF then { c with flags := withBit c.flags (a - 0x1B0) b }
  else if 0x1C0 ≤ a ∧ a ≤ 0x1DF then { c with dir := withBit c.dir (a - 0x1C0) b }
  else if 0x1E0 ≤ a ∧ a ≤ 0x1FF then { c with out := withBit c.out (a - 0x1E0) b }
  else c

/-- What the spec does not state of the on-chip devices' values takes free values, the first of them number `n`
(R372, U3). Configuration and direction bits are as given. -/
def OnChip.unspecified (cb : BitVec 4) (dir : BitVec 32) (n : Nat) : OnChip :=
  { cb := cb
    dir := dir
    out := Config.freeWord n ++ Config.freeWord (n + 1)
    flags := Config.freeWord (n + 2)
    dec := (Config.freeWord (n + 3)).setWidth 14
    decbuf := (Config.freeWord (n + 4)).setWidth 14
    timer := Config.freeBit (n + 5)
    decint := Config.freeBit (n + 6)
    mpsi := Config.freeWord (n + 7) }

/-- How many free values `OnChip.unspecified` uses. -/
def OnChip.unspecifiedFree : Nat := 8

end Sys2Proof.Machine
end

