-- ==== Sys2Proof/Machine/Bus.lean ====
section
/-! DEFINITION. The updates of State, the memory bus of each part, and what happens outside the CPU at a bus cycle
(R61, R65, R66, R74 to R79, R276, R310, R320, R331, R395). -/

namespace Sys2Proof.Machine

/-! ## Fields -/

def State.setPc (s : State) (v : Word) : State := { s with pc := even v }
def State.setWp (s : State) (v : Word) : State := { s with wp := even v }
def State.setSt (s : State) (v : Word) : State := { s with st := v }
def State.setHalted (s : State) (b : Bool) : State := { s with halted := b }
def State.setInhibit (s : State) (b : Bool) : State := { s with inhibit := b }
def State.setXword (s : State) (w : Option Word) : State := { s with xword := w }
def State.setMem (s : State) (m : Memory) : State := { s with mem := m }
def State.setDev (s : State) (d : Devices) : State := { s with dev := d }
def State.setEnv (s : State) (e : List (List Event)) : State := { s with env := e }
def State.setDuring (s : State) (m : List (List MidEvent)) : State := { s with during := m }

/-- `n` free values are used. -/
def State.useFree (s : State) (n : Nat) : State := { s with free := s.free + n }

def State.setPins (s : State) (p : Pins) : State := s.setDev { s.dev with pins := p }
def State.setChip (s : State) (c : OnChip) : State := s.setDev { s.dev with chip := c }
def State.setPsi (s : State) (p : List Psi) : State := s.setDev { s.dev with psi := p }
def State.setResetDue (s : State) (b : Bool) : State := s.setDev { s.dev with resetDue := b }

/-- The bus event happens (log entry 31). -/
def State.emit (s : State) (e : BusEvent) : State := s.setDev { s.dev with log := e :: s.dev.log }

/-! ## The address bus -/

/-- The byte address that leaves the CPU: the TMS 9980 has 14 address lines (R61). -/
def busAddr (p : Part) (a : Word) : Nat :=
  match p with
  | .tms9980 => a.toNat % 0x4000
  | _ => a.toNat

/-- How many byte addresses there are (R61). -/
def busSize (p : Part) : Nat :=
  match p with
  | .tms9980 => 0x4000
  | _ => 0x10000

/-- The kind a list of regions gives an address: that of the first region that holds it, else RAM (D8). -/
def mapKind : List Region → Nat → RegionKind
  | [], _ => .ram
  | r :: m, a => if r.base ≤ a ∧ a < r.base + r.size then r.kind else mapKind m a

/-- The TMS 9940's memory (R75). -/
def onChipKind (a : Nat) : RegionKind :=
  if a < 0x800 then .rom else if 0x8300 ≤ a ∧ a ≤ 0x837F then .ram else .absent

/-- What stands at an address: MEM_MAP is by word on the TMS 9900 and by byte on the TMS 9980 (R74). -/
def kindAt (c : Platform) (a : Word) : RegionKind :=
  match c.part with
  | .tms9900 => mapKind c.memMap (even a).toNat
  | .tms9980 => mapKind c.memMap (busAddr .tms9980 a)
  | .tms9940 => onChipKind a.toNat

/-- The address line that drives S0 of every TMS 9901 takes a level (R395). -/
def State.seeLine (s : State) (line : Bool) : State := s.setPsi (s.dev.psi.map fun p => p.seeS0 line)

/-- A memory cycle puts an address on the bus; the TMS 9940 has none. Byte address bit 5 is the line of S0 (R395). -/
def State.seeAddr (s : State) (a : Word) : State :=
  match s.cfg.part with
  | .tms9940 => s
  | _ => s.seeLine (a.getLsbD 5)

/-! ## One bus cycle of memory -/

/-- What a byte address answers a read with. An absent location or a device gives a free value (U1; log entries 10,
11). -/
def cellByte (a : Word) (s : State) : Byte × State :=
  match kindAt s.cfg a with
  | .ram => (Memory.read s.mem (busAddr s.cfg.part a), s)
  | .rom => (Memory.read s.mem (busAddr s.cfg.part a), s)
  | .absent => (Config.freeByte s.free, s.useFree 1)
  | .device => (Config.freeByte s.free, s.useFree 1)

/-- What a byte address does with a byte written to it: only RAM keeps it (R74, U2). -/
def storeByte (a : Word) (b : Byte) (s : State) : State :=
  match kindAt s.cfg a with
  | .ram => s.setMem (Memory.write s.mem (busAddr s.cfg.part a) b)
  | .rom => s
  | .absent => s
  | .device => s

/-- The bus event of a cycle at an address, where a device stands there (R76). -/
def State.emitAt (s : State) (a : Word) (e : BusEvent) : State :=
  match kindAt s.cfg a with
  | .device => s.emit e
  | _ => s

/-- A read cycle of the TMS 9980's bus: one byte (R61, R66). -/
def readCycle8 (a : Word) (s : State) : Byte × State :=
  cellByte a ((s.seeAddr a).emitAt a (.devRead (busAddr s.cfg.part a)))

/-- A write cycle of the TMS 9980's bus. -/
def writeCycle8 (a : Word) (b : Byte) (s : State) : State :=
  storeByte a b ((s.seeAddr a).emitAt a (.devWrite (busAddr s.cfg.part a) b))

/-- A read cycle of a 16-bit bus: the whole word at the even address (R61, R65). The TMS 9940 has no bus; its memory
is on the chip. -/
def readCycle16 (a : Word) (s : State) : Word × State :=
  let hi := cellByte (even a) ((s.seeAddr (even a)).emitAt (even a) (.devReadWord (even a).toNat))
  let lo := cellByte (even a + 1) hi.2
  (hi.1 ++ lo.1, lo.2)

/-- A write cycle of a 16-bit bus: the whole word at the even address (R61, R65). -/
def writeCycle16 (a v : Word) (s : State) : State :=
  storeByte (even a + 1) (v.extractLsb' 0 8)
    (storeByte (even a) (v.extractLsb' 8 8) ((s.seeAddr (even a)).emitAt (even a) (.devWriteWord (even a).toNat v)))

/-- The memory cycles that read a word: one, and on the TMS 9980 two, the even byte first (R65, D9). -/
def busRead (a : Word) (s : State) : Word × State :=
  match s.cfg.part with
  | .tms9980 =>
    let hi := readCycle8 (even a) s
    let lo := readCycle8 (even a + 1) hi.2
    (hi.1 ++ lo.1, lo.2)
  | _ => readCycle16 a s

/-- The memory cycles that write a word: one, and on the TMS 9980 two, the even byte first (R65, D9). -/
def busWrite (a v : Word) (s : State) : State :=
  match s.cfg.part with
  | .tms9980 => writeCycle8 (even a + 1) (v.extractLsb' 0 8) (writeCycle8 (even a) (v.extractLsb' 8 8) s)
  | _ => writeCycle16 a v s

/-- Another bus master makes one read cycle (R78, R331); no other agent can touch the TMS 9940's memory (R378). -/
def State.dmaRead (s : State) (a : Word) : State :=
  match s.cfg.part with
  | .tms9900 => (readCycle16 a s).2
  | .tms9980 => (readCycle8 a s).2
  | .tms9940 => s

/-- Another bus master makes one write cycle (R78, R331); the TMS 9980's bus carries the low byte of `v`. -/
def State.dmaWrite (s : State) (a v : Word) : State :=
  match s.cfg.part with
  | .tms9900 => writeCycle16 a v s
  | .tms9980 => writeCycle8 a (v.extractLsb' 0 8) s
  | .tms9940 => s

/-! ## What happens outside the CPU -/

/-- A change of TMS 9901 number `u`, where there is one. -/
def State.mapPsi (s : State) (u : Nat) (f : Psi → Psi) : State := s.setPsi (s.dev.psi.modify u f)

/-- Pin Pk of TMS 9901 number `u` is in output mode (R393). -/
def State.psiOutput (s : State) (u k : Nat) : Bool :=
  match s.dev.psi[u]? with
  | some p => p.om.getLsbD k
  | none => false

/-- External logic drives Pk of a TMS 9901: outside the model where the pin is in output mode (U15), which `settle`
turns into a refusal of the step. -/
def State.drivePsiP (s : State) (u : Nat) (k : Fin 16) (level : Bool) : State :=
  if s.psiOutput u k then s.setDev { s.dev with misdriven := some (u, k) }
  else s.mapPsi u fun p => { p with pIn := withBit p.pIn k level }

/-- A device event. New levels on P0 to P31 tick the event counter at a rising edge of P17 (R376). -/
def applyDev (e : DevEvent) (s : State) : State :=
  match e with
  | .int1 level => s.setPins { s.dev.pins with int1 := level }
  | .int2 level => s.setPins { s.dev.pins with int2 := level }
  | .pins levels => (s.setChip (s.dev.chip.edge s.dev.pins.p levels)).setPins { s.dev.pins with p := levels }
  | .oscTick => s.setChip s.dev.chip.oscTick
  | .mpsiBit b => s.setChip (s.dev.chip.receive b)
  | .cruLine a level => s.setDev { s.dev with cruLines := setLine s.dev.cruLines a level }
  | .cruState u k b =>
    s.setDev { s.dev with cruDevices := s.dev.cruDevices.modify u fun d => { d with bits := d.bits.set k b } }
  | .psiInt u k level => s.mapPsi u fun p => { p with intIn := withBit p.intIn k level }
  | .psiP u k level => s.drivePsiP u k level
  | .psiTick u => s.mapPsi u Psi.tick
  | .psiReset u => (s.mapPsi u fun p => p.doReset s.free).useFree Psi.resetFree

/-- RESET is held low: the TMS 9980 decodes it from INT0 to INT2 (R320, R360, R372). -/
def resetHeld (p : Part) (pins : Pins) : Bool :=
  match p with
  | .tms9980 => pins.intCode.toNat < 2
  | _ => pins.reset

/-- New levels on the pins; RESET being released makes the sequence due (R320). -/
def State.drivePins (s : State) (p : Pins) : State :=
  let released := resetHeld s.cfg.part s.dev.pins && !resetHeld s.cfg.part p
  (s.setPins p).setResetDue (s.dev.resetDue || released)

/-- What the logic of the system does to the CPU's inputs and to the devices. -/
def applyPlatform (s : State) (e : PlatformEvent) : State :=
  match e with
  | .resetLine low => s.drivePins { s.dev.pins with reset := low }
  | .loadLine low => s.drivePins { s.dev.pins with load := low }
  | .intReq code => s.drivePins { s.dev.pins with intReq := code }
  | .intCode code => s.drivePins { s.dev.pins with intCode := code }
  | .holdLine low => s.drivePins { s.dev.pins with hold := low }
  | .dev d => applyDev d s

/-- The inputs to come, with batches of platform events due before the steps that come next; in each batch they come
first (log entry 45). -/
def joinEnv : List (List PlatformEvent) → List (List Event) → List (List Event)
  | [], env => env
  | batch :: later, [] => batch.map .platform :: joinEnv later []
  | batch :: later, inputs :: env => (batch.map .platform ++ inputs) :: joinEnv later env

/-- EXT_CTL: the reaction of the system to an external-instruction code, the first row that has the code; none where no
row has it (R276, D28, U10). -/
def State.react (s : State) (code : BitVec 3) : State :=
  match s.cfg.extCtl.find? fun r => r.code == code with
  | some r => (r.now.foldl applyPlatform s).setEnv (joinEnv r.later s.env)
  | none => s

/-- An event between two bus cycles of an instruction. -/
def applyMid (s : State) (e : MidEvent) : State :=
  match e with
  | .dev d => applyDev d s
  | .dmaWrite a v => s.dmaWrite a v
  | .dmaRead a => s.dmaRead a

/-- The CPU is about to make a bus cycle: what happens outside before it, the next batch of `during`, if any (R78, R79,
R331, R376, D10; log entry 48). -/
def State.busCycle (s : State) : State :=
  match s.during with
  | [] => s
  | batch :: later => batch.foldl applyMid (s.setDuring later)

end Sys2Proof.Machine
end

