-- ==== Sys2Proof/Machine/Ops.lean ====
section
/-! DEFINITION. The named operations over memory and workspace registers, and the context switches (R22, R26, R42, R60
to R79, R225, R300). -/

namespace Sys2Proof.Machine

/-! ## The CPU's memory accesses -/

/-- `MemRead(a, 2)`: the word at the even address, high-order byte first (R62 to R64), after what happens before the
access. -/
def readWord (a : Word) (s : State) : Word × State := busRead a s.busCycle

/-- `MemWrite(a, 2, v)` (R62 to R64). -/
def writeWord (a v : Word) (s : State) : State := busWrite a v s.busCycle

/-- The byte that an address selects in the word that holds it: the high-order byte at the even address (R62). -/
def byteAt (a w : Word) : Byte := if a.getLsbD 0 then w.extractLsb' 0 8 else w.extractLsb' 8 8

/-- The word with the byte an address selects replaced (R65). -/
def withByte (a w : Word) (b : Byte) : Word :=
  if a.getLsbD 0 then w.extractLsb' 8 8 ++ b else b ++ w.extractLsb' 0 8

/-- `MemRead(a, 1)`: the bus reads the whole word (R63, R65, D9). -/
def readByte (a : Word) (s : State) : Byte × State :=
  let w := readWord a s
  (byteAt a w.1, w.2)

/-- `MemWrite(a, 1, b)`: the whole word is written, its other byte as it was read, in `w`, by the read that comes before
every write of a byte (R63, R65, R67, D9). -/
def writeByte (a w : Word) (b : Byte) (s : State) : State := writeWord a (withByte a w b) s

/-! ## What memory holds, read from outside: for statements and tests -/

/-- The byte a cell of memory holds at an address. -/
def State.peekByte (s : State) (a : Word) : Byte := Memory.read s.mem (busAddr s.cfg.part a)

/-- The word at an even address. -/
def State.peekWord (s : State) (a : Word) : Word := s.peekByte (even a) ++ s.peekByte (even a + 1)

/-! ## Workspace registers (R22) -/

/-- The address of workspace register `r`. -/
def regAddr (s : State) (r : Reg) : Word := s.wp + 2 * r.setWidth 16

def readReg (r : Reg) (s : State) : Word × State := readWord (regAddr s r) s

def writeReg (r : Reg) (v : Word) (s : State) : State := writeWord (regAddr s r) v s

/-- What workspace register `r` holds, read from outside. -/
def State.peekReg (s : State) (r : Reg) : Word := s.peekWord (regAddr s r)

/-! ## Fetch (R70) -/

/-- `Fetch()`. -/
def fetch (s : State) : Word × State :=
  let w := readWord s.pc s
  (w.1, w.2.setPc (w.2.pc + 2))

/-! ## Context switches: the one way an exception is taken, and the return from it -/

/-- The bits of `st` that exist, ST_IMPL (R34, R225). -/
def stImpl (p : Part) : Word :=
  match p with
  | .tms9940 => 0xFD03
  | _ => 0xFE0F

/-- Registers of the workspace at `wp`: the address of register `n` of a workspace that is not current. -/
def slotAddr (wp : Word) (n : Nat) : Word := wp + BitVec.ofNat 16 (2 * n)

/-- `ContextSwitch(v)` (R300): the new `wp` from the vector, `st`, `pc` and `wp` into the new R15, R14, R13, then the
new `pc` from the vector. XOP has one more store, the address of its operand into the new R11, before the three
(R263). -/
def contextSwitch (v : Word) (link : Option Word) (s : State) : State :=
  let nw := readWord v s
  let newWp := even nw.1
  let s1 := match link with
    | none => nw.2
    | some a => writeWord (slotAddr newWp 11) a nw.2
  let s2 := writeWord (slotAddr newWp 15) s1.st s1
  let s3 := writeWord (slotAddr newWp 14) s2.pc s2
  let s4 := writeWord (slotAddr newWp 13) s3.wp s3
  let np := readWord (v + 2) s4
  (np.2.setWp newWp).setPc np.1

/-- The backward context switch of RTWP (R225): R15, R14, R13 into `st`, `pc`, `wp`. -/
def returnSwitch (s : State) : State :=
  let nst := readReg 15 s
  let npc := readReg 14 nst.2
  let nwp := readReg 13 npc.2
  ((nwp.2.setSt (nst.1 &&& stImpl s.cfg.part)).setPc npc.1).setWp nwp.1

end Sys2Proof.Machine
end

