-- ==== Sys2Proof/Machine/Flags.lean ====
section
/-! DEFINITION. The Status register's flags and the flag computations (R28 to R38, R170). -/

namespace Sys2Proof.Machine

/-- The flags of `st` (R28). -/
inductive Flag where
  | l
  | a
  | eq
  | c
  | ov
  | op
  | x
  | ac
deriving DecidableEq, Repr

/-- The bit of `st` a flag is (R28). -/
def flagBit (f : Flag) : Nat :=
  match f with
  | .l => 15
  | .a => 14
  | .eq => 13
  | .c => 12
  | .ov => 11
  | .op => 10
  | .x => 9
  | .ac => 8

def State.flag (s : State) (f : Flag) : Bool := s.st.getLsbD (flagBit f)

def State.setFlag (s : State) (f : Flag) (b : Bool) : State := s.setSt (withBit s.st (flagBit f) b)

/-- `st.MASK` as a level (R33): two bits on the TMS 9940. -/
def State.maskLevel (s : State) : Nat :=
  match s.cfg.part with
  | .tms9940 => s.st.toNat % 4
  | _ => s.st.toNat % 16

/-- `st.MASK <- v` (R33): the TMS 9940 has only bits 1..0 of it. -/
def State.setMask (s : State) (v : BitVec 4) : State :=
  match s.cfg.part with
  | .tms9940 => s.setSt ((s.st &&& 0xFFFC) ||| (v.setWidth 16 &&& 3))
  | _ => s.setSt ((s.st &&& 0xFFF0) ||| v.setWidth 16)

/-- `SetLAE(v)` (R35). -/
def setLAE {w : Nat} (v : BitVec w) (s : State) : State :=
  ((s.setFlag .l (v != 0)).setFlag .a (v != 0 && !v.msb)).setFlag .eq (v == 0)

/-- `SetCmp(a, b)` (R36). -/
def setCmp {w : Nat} (a b : BitVec w) (s : State) : State :=
  ((s.setFlag .l (b.ult a)).setFlag .a (b.slt a)).setFlag .eq (a == b)

/-- `st.OP <- parity_odd(b)` (R38). -/
def setParity (b : Byte) (s : State) : State := s.setFlag .op (parityOdd b)

/-- The carry out of the sum at width `w` (R37). -/
def addCarry {w : Nat} (a b : BitVec w) (cin : Bool) : Bool :=
  2 ^ w ≤ a.toNat + b.toNat + cin.toNat

/-- The result of `AddW` (R37). -/
def addResult {w : Nat} (a b : BitVec w) (cin : Bool) : BitVec w :=
  BitVec.ofNat w (a.toNat + b.toNat + cin.toNat)

/-- The overflow of `AddW` (R37). -/
def addOverflow {w : Nat} (a b : BitVec w) (cin : Bool) : Bool :=
  a.msb == b.msb && (addResult a b cin).msb != a.msb

/-- The half carry of R170: out of bit 3 of a byte, out of bit 11 of a word. -/
def halfCarry {w : Nat} (a b : BitVec w) (cin : Bool) : Bool :=
  2 ^ (w - 4) ≤ a.toNat % 2 ^ (w - 4) + b.toNat % 2 ^ (w - 4) + cin.toNat

/-- The AC part of `ArithFlags` in instruction `op` (R170, D20), on the TMS 9940: the half carry, where `op` is one of
AC_WRITERS, else an unspecified value (U6), a free one. -/
def setHalfCarry (op : ArithOp) (h : Bool) (s : State) : State :=
  match s.cfg.part with
  | .tms9940 =>
    if s.cfg.acWriters.contains op then s.setFlag .ac h
    else (s.setFlag .ac (Config.freeBit s.free)).useFree 1
  | _ => s

/-- `ArithFlags(a, b, cin, W)` in instruction `op` (R170): the flags C, OV and AC; the result is `addResult a b cin`. -/
def arithFlags {w : Nat} (op : ArithOp) (a b : BitVec w) (cin : Bool) (s : State) : State :=
  setHalfCarry op (halfCarry a b cin) ((s.setFlag .c (addCarry a b cin)).setFlag .ov (addOverflow a b cin))

end Sys2Proof.Machine
end

