-- ==== Sys2Proof/Machine/Operands.lean ====
section
/-! DEFINITION. The general operand: effective addresses and operand access (R110 to R113, R140). -/

namespace Sys2Proof.Machine

/-- The size of an operation (R110): what auto-increment adds. -/
inductive Size where
  | byte
  | word
deriving DecidableEq, Repr

def sizeStep (z : Size) : Word :=
  match z with
  | .byte => 1
  | .word => 2

/-- `EA(T, R, size)` (R110): the effective address, and the state after its side effects. -/
def effAddr (o : Operand) (z : Size) (s : State) : Word × State :=
  match o with
  | .reg r => (regAddr s r, s)
  | .ind r => readReg r s
  | .direct => fetch s
  | .indexed r =>
    let base := fetch s
    let x := readReg r base.2
    (base.1 + x.1, x.2)
  | .autoInc r =>
    let a := readReg r s
    (a.1, writeReg r (a.1 + sizeStep z) a.2)

/-- An operand that has been read: its address, the word the bus read, the operand's value, and the state after (R65,
R112). -/
structure Fetched (w : Nat) where
  addr : Word
  word : Word
  value : BitVec w
  state : State
deriving DecidableEq, Repr

/-- `ReadOperand(T, R, 2)` (R112). -/
def readOperand16 (o : Operand) (s : State) : Fetched 16 :=
  let a := effAddr o .word s
  let v := readWord a.1 a.2
  { addr := a.1, word := v.1, value := v.1, state := v.2 }

/-- `ReadOperand(T, R, 1)` (R112): the bus reads the whole word (R65, D9). -/
def readOperand8 (o : Operand) (s : State) : Fetched 8 :=
  let a := effAddr o .byte s
  let v := readWord a.1 a.2
  { addr := a.1, word := v.1, value := byteAt a.1 v.1, state := v.2 }

/-- `WriteOperand(a, 1, b)` (R112) of an operand that has been read: the whole word is written, its other byte as it was
read (R65, D9). -/
def writeOperand8 (d : Fetched 8) (b : Byte) (s : State) : State := writeByte d.addr d.word b s

end Sys2Proof.Machine
end

