-- ==== Sys2Proof/Machine/Cru.lean ====
section
/-! DEFINITION. The CRU space and the external-instruction codes (R80 to R85, R373, R380, R391). -/

namespace Sys2Proof.Machine

/-- CRUW, the width of a CRU bit address (R81). -/
def cruWidth (p : Part) : Nat :=
  match p with
  | .tms9900 => 12
  | .tms9980 => 11
  | .tms9940 => 9

/-- `CruBase()` from the contents of R12 (R81). -/
def cruBase (p : Part) (r12 : Word) : Nat := r12.toNat / 2 % 2 ^ cruWidth p

/-- The address of the bit `k` above the base (R82, D17). -/
def cruAddr (p : Part) (base k : Nat) : Nat := (base + k) % 2 ^ cruWidth p

/-- The address a signed displacement gives (R82, D17). -/
def cruDispAddr (p : Part) (base : Nat) (disp : BitVec 8) : Nat :=
  (BitVec.ofNat 16 base + disp.signExtend 16).toNat % 2 ^ cruWidth p

/-- An unspecified level (U4). -/
def State.anyBit (s : State) : Bool × State := (Config.freeBit s.free, s.useFree 1)

/-- `CruIn` on the external CRU lines (R80, R82, R83). -/
def busIn (a : Nat) (s0 : State) : Bool × State :=
  let s := (s0.emit (.cruIn a)).seeLine (a.testBit 4)
  match s.dev.cruLevel a with
  | some b => (b, s)
  | none => s.anyBit

/-- `CruOut` on the external CRU lines (R80, R82, R83). Every TMS 9901 has free values set aside for a reset (R396). -/
def busOut (a : Nat) (b : Bool) (s0 : State) : State :=
  let s := (s0.emit (.cruOut a b)).seeLine (a.testBit 4)
  (s.setDev (s.dev.cruTake a b s.free)).useFree (Psi.resetFree * s.dev.psi.length)

/-- `CruIn` of a TMS 9940 (R373, R380). In I/O expansion mode CRUIN is pin P8: the spec does not say how a level
driven on P8 and the devices of CRU_MAP (R83) relate, and the model takes the bit from CRU_MAP alone, a free bit where
nothing answers, whatever level `Pins.p` holds for P8 (DESIGN CHOICE: log entry 49). -/
def chipIn (a : Nat) (s : State) : Bool × State :=
  if a < 0x100 then
    if s.dev.chip.cbit 0 then busIn a s else s.anyBit
  else
    match s.dev.chip.readBit s.dev.pins a with
    | some b => (b, s)
    | none => s.anyBit

/-- `CruOut` of a TMS 9940 (R373, R374, R377, R380). A latch written while its pin is in a special function takes an
unspecified value. A bit written to the serial buffer is sent on TD when CB1 is 1: the spec does not say what TD sends
when fewer than sixteen bits are written, or not in ascending order, and the model sends each bit at its own write;
nor does it say what the buffer reads back once its bits have been sent, and the model keeps the bits as written, not
shifted out (DESIGN CHOICE: log entry 39). -/
def chipOut (a : Nat) (b : Bool) (s : State) : State :=
  let c := s.dev.chip
  if a < 0x100 then
    if c.cbit 0 then busOut a b s else s
  else if 0x1E0 ≤ a ∧ a ≤ 0x1FF ∧ c.special (a - 0x1E0) then
    (s.setChip (c.writeBit a (Config.freeBit s.free))).useFree 1
  else if 0x1A0 ≤ a ∧ a ≤ 0x1AF ∧ c.cbit 1 then
    (s.setChip (c.writeBit a b)).emit (.mpsiTx b)
  else s.setChip (c.writeBit a b)

/-- `CruIn(a)` (R82): one bus cycle, before which devices and lines may have changed (R376, U13). -/
def cruIn (a : Nat) (s : State) : Bool × State :=
  match s.cfg.part with
  | .tms9940 => chipIn a s.busCycle
  | _ => busIn a s.busCycle

/-- `CruOut(a, b)` (R82): one bus cycle. -/
def cruOut (a : Nat) (b : Bool) (s : State) : State :=
  match s.cfg.part with
  | .tms9940 => chipOut a b s.busCycle
  | _ => busOut a b s.busCycle

/-- The loop of LDCR (R141): bits 0 to n - 1 of `v`, in ascending order. -/
def cruSend (base n : Nat) (v : Word) (s : State) : State :=
  (List.range n).foldl (fun t k => cruOut (cruAddr t.cfg.part base k) (v.getLsbD k) t) s

/-- The loop of STCR (R142): bits 0 to n - 1, in ascending order; the bits above are 0. -/
def cruReceive (base n : Nat) (s : State) : Word × State :=
  (List.range n).foldl
    (fun acc k =>
      let r := cruIn (cruAddr acc.2.cfg.part base k) acc.2
      (withBit acc.1 k r.1, r.2))
    (0, s)

/-- `ExtCtl(code)` (R85, R276): one bus cycle with the code on the three high-order address lines, and the reaction of
the system to it, EXT_CTL (D28; log entry 45). On the TMS 9900 and TMS 9980 the twelve low-order lines carry 0, S0's
among them. On a TMS 9940 in I/O expansion mode the spec does not say whether the cycle of IDLE drives A1 to A8, and
the model leaves S0 of a TMS 9901 wired there as it was (DESIGN CHOICE: log entry 45). -/
def extCtl (code : BitVec 3) (s : State) : State := ((s.busCycle.emit (.extCtl code)).seeAddr 0).react code

end Sys2Proof.Machine
end

