-- ==== Sys2Proof/Machine/Interrupts.lean ====
section
/-! DEFINITION. RESET, LOAD and the external interrupts: what requests them and what taking them does (R310 to R325,
R360, R370 to R372, R392). -/

namespace Sys2Proof.Machine

/-- `load_req` (R310, R325, R360): the TMS 9940 has no LOAD. -/
def loadReq (p : Part) (pins : Pins) : Bool :=
  match p with
  | .tms9900 => pins.load
  | .tms9980 => pins.intCode.toNat == 2
  | .tms9940 => false

/-- The level a TMS 9980 code requests (R360). -/
def codeLevel (code : BitVec 3) : Option Nat :=
  if 3 ≤ code.toNat ∧ code.toNat ≤ 6 then some (code.toNat - 2) else none

/-- The level the TMS 9940's own sources request (R371): INT1 1, decrementer 2, INT2 3. -/
def chipLevel (pins : Pins) (c : OnChip) : Option Nat :=
  if !pins.int1 then some 1
  else if c.decint then some 2
  else if !pins.int2 then some 3
  else none

/-- The level a TMS 9900 sees (R312): from the TMS 9901 wired to it where there is one (R392), else from the pins. -/
def presentedLevel (d : Devices) : Option Nat :=
  match d.psi.find? Psi.wired with
  | some p => p.irq.map BitVec.toNat
  | none => d.pins.intReq.map BitVec.toNat

/-- `irq` (R310). -/
def irq (p : Part) (d : Devices) : Option Nat :=
  match p with
  | .tms9900 => presentedLevel d
  | .tms9980 => codeLevel d.pins.intCode
  | .tms9940 => chipLevel d.pins d.chip

/-- The level that is accepted now: one not greater than the mask (R310, R312). -/
def acceptedIrq (s : State) : Option Nat :=
  match irq s.cfg.part s.dev with
  | some n => if n ≤ s.maskLevel then some n else none
  | none => none

/-- `Reset9940Cru()` with what R372 leaves unspecified, and `pc`, `wp`, `st` 0. -/
def resetChip (s : State) : State :=
  match s.cfg.part with
  | .tms9940 =>
    (((s.setChip (OnChip.unspecified 0 0 s.free)).useFree OnChip.unspecifiedFree).setPc 0).setWp 0 |>.setSt 0
  | _ => s

/-- RESET_ST_FLAGS (R320, D7): st[15:4] after reset. -/
def resetFlags (s : State) : State := if s.cfg.keepResetFlags then s else s.setSt (s.st &&& 0x000F)

/-- `DoReset()` (R320). A chain of X instructions in progress is abandoned. -/
def doReset (s : State) : State :=
  let s1 := resetChip (((s.setHalted false).setXword none).setResetDue false)
  ((resetFlags (contextSwitch 0x0000 none s1)).setMask 0).setInhibit true

/-- `DoLoad()` (R325). -/
def doLoad (s : State) : State :=
  ((contextSwitch 0xFFFC none (s.setHalted false)).setMask 0).setInhibit true

/-- `DoInterrupt(n)` (R313). -/
def doInterrupt (n : Nat) (s : State) : State :=
  ((contextSwitch (BitVec.ofNat 16 (4 * n)) none (s.setHalted false)).setMask (BitVec.ofNat 4 (n - 1))).setInhibit true

/-- The IDLE output of the TMS 9940 is low (R378). -/
def State.idleLow (s : State) : Bool := s.halted && s.dev.chip.cbit 3

/-- The CPU is held: HOLD is low (R331), on the TMS 9940 the level at P14 is low while CB3 makes that pin HLD (R374),
and only between instructions (R378). While this is true HOLDA (HLDA) is asserted. -/
def State.held (s : State) : Bool :=
  match s.cfg.part with
  | .tms9940 => !s.dev.pins.p.getLsbD 14 && s.dev.chip.cbit 3 && s.xword.isNone
  | _ => s.dev.pins.hold

/-- Another bus master has the bus between instructions: the CPU holds, and there is a memory bus (R78, R331, R378). -/
def State.busGranted (s : State) : Bool :=
  match s.cfg.part with
  | .tms9940 => false
  | _ => s.held

end Sys2Proof.Machine
end

