-- ==== Sys2Proof/Machine/Inputs.lean ====
section
/-! DEFINITION. What external logic does between instructions (R7, R310, R316, R331, R376 to R378, R391 to R396, R412,
R413): the events of one batch, taken before the CPU acts. -/

namespace Sys2Proof.Machine

/-- What a TMS 9940 keeps of its devices through a standby is not stated (R378): free values, while it is idle with CB3
set. Log entry 43. -/
def State.losePower (s : State) : State :=
  match s.cfg.part with
  | .tms9940 =>
    if s.idleLow then
      (s.setChip (OnChip.unspecified ((Config.freeWord s.free).setWidth 4)
        (Config.freeWord (s.free + 1) ++ Config.freeWord (s.free + 2)) (s.free + 3))).useFree
          (OnChip.unspecifiedFree + 3)
    else s
  | _ => s

/-- The start of a program loaded through TST (R413). What the spec leaves open is free: `wp`, `st`, and `inhibit`, so
that its first instruction may or may not be shielded. That the Halt state and a chain of X instructions end is
DEDUCED: the program is executed (log entry 40). -/
def State.startTest (s : State) (start : Word) : State :=
  match s.cfg.part with
  | .tms9940 =>
    ((((s.setPc start).setWp (Config.freeWord s.free)).setSt
      (Config.freeWord (s.free + 1) &&& stImpl s.cfg.part)).setInhibit (Config.freeBit (s.free + 2))).setHalted
        false |>.setXword none |>.useFree 3
  | _ => s

/-- One event. -/
def applyEvent (s : State) (e : Event) : State :=
  match e with
  | .platform d => applyPlatform s d
  | .standby => s.losePower
  | .dmaWrite a v => if s.busGranted then s.dmaWrite a v else s
  | .dmaRead a => if s.busGranted then s.dmaRead a else s
  | .hostLoad a b => s.setMem (Memory.write s.mem (busAddr s.cfg.part a) b)
  | .testStart start => s.startTest start

/-- The events of a batch, in order. -/
def applyEvents (es : List Event) (s : State) : State := es.foldl applyEvent s

/-- The inputs of this step: the next batch of `env`, if any (log entry 32). -/
def sample (s : State) : State :=
  match s.env with
  | [] => s
  | batch :: later => applyEvents batch (s.setEnv later)

end Sys2Proof.Machine
end

