-- ==== Sys2Proof/Machine/Arith.lean ====
section
/-! DEFINITION. Add, subtract, compare, multiply, divide and the single-operand arithmetic (42_memory_operate.md). -/

namespace Sys2Proof.Machine

/-- A (R171). -/
def execA (src dst : Operand) (s : State) : Host.Outcome State Fault Refusal :=
  let a := readOperand16 src s
  let d := readOperand16 dst a.state
  let r := addResult a.value d.value false
  .next (setLAE r (writeWord d.addr r (arithFlags .a a.value d.value false d.state)))

/-- AB (R172). -/
def execAb (src dst : Operand) (s : State) : Host.Outcome State Fault Refusal :=
  let a := readOperand8 src s
  let d := readOperand8 dst a.state
  let r := addResult a.value d.value false
  .next (setParity r (setLAE r (writeOperand8 d r (arithFlags .ab a.value d.value false d.state))))

/-- S (R173): the destination less the source. -/
def execS (src dst : Operand) (s : State) : Host.Outcome State Fault Refusal :=
  let a := readOperand16 src s
  let d := readOperand16 dst a.state
  let r := addResult d.value (~~~a.value) true
  .next (setLAE r (writeWord d.addr r (arithFlags .s d.value (~~~a.value) true d.state)))

/-- SB (R174). -/
def execSb (src dst : Operand) (s : State) : Host.Outcome State Fault Refusal :=
  let a := readOperand8 src s
  let d := readOperand8 dst a.state
  let r := addResult d.value (~~~a.value) true
  .next (setParity r (setLAE r (writeOperand8 d r (arithFlags .sb d.value (~~~a.value) true d.state))))

/-- C (R178). -/
def execC (src dst : Operand) (s : State) : Host.Outcome State Fault Refusal :=
  let a := readOperand16 src s
  let d := readOperand16 dst a.state
  .next (setCmp a.value d.value d.state)

/-- CB (R179): the parity is the source byte's. -/
def execCb (src dst : Operand) (s : State) : Host.Outcome State Fault Refusal :=
  let a := readOperand8 src s
  let d := readOperand8 dst a.state
  .next (setParity a.value (setCmp a.value d.value d.state))

/-- MPY (R176): unsigned, high word first; the second word is the one after register `w`, not R0 for R15 (D15). -/
def execMpy (w : Reg) (src : Operand) (s : State) : Host.Outcome State Fault Refusal :=
  let a := readOperand16 src s
  let d := readReg w a.state
  let p : BitVec 32 := BitVec.ofNat 32 (a.value.toNat * d.1.toNat)
  let s1 := writeReg w (p.extractLsb' 16 16) d.2
  .next (writeWord (regAddr s1 w + 2) (p.extractLsb' 0 16) s1)

/-- DIV (R177, D27): unsigned; where the quotient does not fit, OV is set and nothing else happens. -/
def execDiv (w : Reg) (src : Operand) (s : State) : Host.Outcome State Fault Refusal :=
  let a := readOperand16 src s
  let hi := readReg w a.state
  if a.value.toNat ≤ hi.1.toNat then .next (hi.2.setFlag .ov true)
  else
    let lo := readWord (regAddr hi.2 w + 2) hi.2
    let n := hi.1.toNat * 65536 + lo.1.toNat
    let s1 := writeReg w (BitVec.ofNat 16 (n / a.value.toNat)) (lo.2.setFlag .ov false)
    .next (writeWord (regAddr s1 w + 2) (BitVec.ofNat 16 (n % a.value.toNat)) s1)

/-- INC (R180). -/
def execInc (dst : Operand) (s : State) : Host.Outcome State Fault Refusal :=
  let d := readOperand16 dst s
  let r := addResult d.value 1 false
  .next (setLAE r (writeWord d.addr r (arithFlags .inc d.value 1 false d.state)))

/-- INCT (R181). -/
def execInct (dst : Operand) (s : State) : Host.Outcome State Fault Refusal :=
  let d := readOperand16 dst s
  let r := addResult d.value 2 false
  .next (setLAE r (writeWord d.addr r (arithFlags .inct d.value 2 false d.state)))

/-- DEC (R182). -/
def execDec (dst : Operand) (s : State) : Host.Outcome State Fault Refusal :=
  let d := readOperand16 dst s
  let r := addResult d.value 0xFFFF false
  .next (setLAE r (writeWord d.addr r (arithFlags .dec d.value 0xFFFF false d.state)))

/-- DECT (R183). -/
def execDect (dst : Operand) (s : State) : Host.Outcome State Fault Refusal :=
  let d := readOperand16 dst s
  let r := addResult d.value 0xFFFE false
  .next (setLAE r (writeWord d.addr r (arithFlags .dect d.value 0xFFFE false d.state)))

/-- NEG (R187). -/
def execNeg (dst : Operand) (s : State) : Host.Outcome State Fault Refusal :=
  let d := readOperand16 dst s
  let r := addResult (~~~d.value) 0 true
  .next (setLAE r (writeWord d.addr r (arithFlags .neg (~~~d.value) 0 true d.state)))

/-- ABS (R188): the flags are the original operand's, and a non-negative operand is not written. -/
def execAbs (dst : Operand) (s : State) : Host.Outcome State Fault Refusal :=
  let d := readOperand16 dst s
  let t := ((setLAE d.value d.state).setFlag .ov (d.value == 0x8000)).setFlag .c false
  .next (if d.value.msb then writeWord d.addr (-d.value) t else t)

end Sys2Proof.Machine
end

