-- ==== Sys2Proof/Machine/Branch.lean ====
section
/-! DEFINITION. Branches, subroutine calls, RTWP and the jumps (44_jump_branch.md). -/

namespace Sys2Proof.Machine

/-- The target of a jump (R114, R222, R230): the displacement counts words from the word after the jump (D14). -/
def jumpTarget (pc : Word) (disp : BitVec 8) : Word := pc + 2 * disp.signExtend 16

/-- A jump on a condition (R230). -/
def jumpIf (cond : Bool) (disp : BitVec 8) (s : State) : State :=
  if cond then s.setPc (jumpTarget s.pc disp) else s

/-- B (R221): to the effective address; the operand word is read and not used (D13). -/
def execB (src : Operand) (s : State) : Host.Outcome State Fault Refusal :=
  let a := readOperand16 src s
  .next (a.state.setPc a.addr)

/-- BL (R223). -/
def execBl (src : Operand) (s : State) : Host.Outcome State Fault Refusal :=
  let a := readOperand16 src s
  .next ((writeReg 11 a.state.pc a.state).setPc a.addr)

/-- BLWP (R224). -/
def execBlwp (src : Operand) (s : State) : Host.Outcome State Fault Refusal :=
  let a := effAddr src .word s
  .next ((contextSwitch a.1 none a.2).setInhibit true)

/-- RTWP (R225). -/
def execRtwp (s : State) : Host.Outcome State Fault Refusal :=
  .next (returnSwitch s)

/-- JMP (R222). -/
def execJmp (disp : BitVec 8) (s : State) : Host.Outcome State Fault Refusal :=
  .next (jumpIf true disp s)

/-- JEQ (R231). -/
def execJeq (disp : BitVec 8) (s : State) : Host.Outcome State Fault Refusal :=
  .next (jumpIf (s.flag .eq) disp s)

/-- JNE (R232). -/
def execJne (disp : BitVec 8) (s : State) : Host.Outcome State Fault Refusal :=
  .next (jumpIf (!s.flag .eq) disp s)

/-- JGT (R233). -/
def execJgt (disp : BitVec 8) (s : State) : Host.Outcome State Fault Refusal :=
  .next (jumpIf (s.flag .a) disp s)

/-- JLT (R234). -/
def execJlt (disp : BitVec 8) (s : State) : Host.Outcome State Fault Refusal :=
  .next (jumpIf (!s.flag .a && !s.flag .eq) disp s)

/-- JHE (R235). -/
def execJhe (disp : BitVec 8) (s : State) : Host.Outcome State Fault Refusal :=
  .next (jumpIf (s.flag .l || s.flag .eq) disp s)

/-- JH (R236). -/
def execJh (disp : BitVec 8) (s : State) : Host.Outcome State Fault Refusal :=
  .next (jumpIf (s.flag .l && !s.flag .eq) disp s)

/-- JL (R237). -/
def execJl (disp : BitVec 8) (s : State) : Host.Outcome State Fault Refusal :=
  .next (jumpIf (!s.flag .l && !s.flag .eq) disp s)

/-- JLE (R238). -/
def execJle (disp : BitVec 8) (s : State) : Host.Outcome State Fault Refusal :=
  .next (jumpIf (s.flag .eq || !s.flag .l) disp s)

/-- JNC (R239). -/
def execJnc (disp : BitVec 8) (s : State) : Host.Outcome State Fault Refusal :=
  .next (jumpIf (!s.flag .c) disp s)

/-- JNO (R240). -/
def execJno (disp : BitVec 8) (s : State) : Host.Outcome State Fault Refusal :=
  .next (jumpIf (!s.flag .ov) disp s)

/-- JOC (R241). -/
def execJoc (disp : BitVec 8) (s : State) : Host.Outcome State Fault Refusal :=
  .next (jumpIf (s.flag .c) disp s)

/-- JOP (R242). -/
def execJop (disp : BitVec 8) (s : State) : Host.Outcome State Fault Refusal :=
  .next (jumpIf (s.flag .op) disp s)

end Sys2Proof.Machine
end

