-- ==== Sys2Proof/Machine/CruInstr.lean ====
section
/-! DEFINITION. The CRU instructions LDCR, STCR, SBO, SBZ, TB (40_cru_io.md). -/

namespace Sys2Proof.Machine

/-- The transfer length of LDCR and STCR (R140). -/
def cruCount (cnt : BitVec 4) : Nat := if cnt = 0 then 16 else cnt.toNat

/-- LDCR (R141): a byte operand for 1 to 8 bits, a word operand for 9 to 16 (D30). -/
def execLdcr (cnt : BitVec 4) (src : Operand) (s : State) : Host.Outcome State Fault Refusal :=
  let n := cruCount cnt
  if n ≤ 8 then
    let v := readOperand8 src s
    let r12 := readReg 12 v.state
    .next (setParity v.value (setLAE v.value
      (cruSend (cruBase s.cfg.part r12.1) n (v.value.setWidth 16) r12.2)))
  else
    let v := readOperand16 src s
    let r12 := readReg 12 v.state
    .next (setLAE v.value (cruSend (cruBase s.cfg.part r12.1) n v.value r12.2))

/-- STCR (R142): the destination is read first, its value is not used. -/
def execStcr (cnt : BitVec 4) (dst : Operand) (s : State) : Host.Outcome State Fault Refusal :=
  let n := cruCount cnt
  if n ≤ 8 then
    let d := readOperand8 dst s
    let r12 := readReg 12 d.state
    let v := cruReceive (cruBase s.cfg.part r12.1) n r12.2
    let b : Byte := v.1.setWidth 8
    .next (setParity b (setLAE b (writeOperand8 d b v.2)))
  else
    let d := readOperand16 dst s
    let r12 := readReg 12 d.state
    let v := cruReceive (cruBase s.cfg.part r12.1) n r12.2
    .next (setLAE v.1 (writeWord d.addr v.1 v.2))

/-- SBO (R143). -/
def execSbo (disp : BitVec 8) (s : State) : Host.Outcome State Fault Refusal :=
  let r12 := readReg 12 s
  .next (cruOut (cruDispAddr s.cfg.part (cruBase s.cfg.part r12.1) disp) true r12.2)

/-- SBZ (R144). -/
def execSbz (disp : BitVec 8) (s : State) : Host.Outcome State Fault Refusal :=
  let r12 := readReg 12 s
  .next (cruOut (cruDispAddr s.cfg.part (cruBase s.cfg.part r12.1) disp) false r12.2)

/-- TB (R145). -/
def execTb (disp : BitVec 8) (s : State) : Host.Outcome State Fault Refusal :=
  let r12 := readReg 12 s
  let b := cruIn (cruDispAddr s.cfg.part (cruBase s.cfg.part r12.1) disp) r12.2
  .next (b.2.setFlag .eq b.1)

end Sys2Proof.Machine
end

