-- ==== Sys2Proof/Machine/Immediate.lean ====
section
/-! DEFINITION. Immediate instructions LI, LWPI, CI, AI, ANDI, ORI (43_immediate.md). -/

namespace Sys2Proof.Machine

/-- LI (R210). -/
def execLi (w : Reg) (s : State) : Host.Outcome State Fault Refusal :=
  let imm := fetch s
  .next (setLAE imm.1 (writeReg w imm.1 imm.2))

/-- LWPI (R211). -/
def execLwpi (s : State) : Host.Outcome State Fault Refusal :=
  let imm := fetch s
  .next (imm.2.setWp imm.1)

/-- CI (R212). -/
def execCi (w : Reg) (s : State) : Host.Outcome State Fault Refusal :=
  let imm := fetch s
  let d := readReg w imm.2
  .next (setCmp d.1 imm.1 d.2)

/-- AI (R213). -/
def execAi (w : Reg) (s : State) : Host.Outcome State Fault Refusal :=
  let imm := fetch s
  let d := readReg w imm.2
  let r := addResult d.1 imm.1 false
  .next (setLAE r (writeReg w r (arithFlags .ai d.1 imm.1 false d.2)))

/-- ANDI (R214). -/
def execAndi (w : Reg) (s : State) : Host.Outcome State Fault Refusal :=
  let imm := fetch s
  let d := readReg w imm.2
  let r := d.1 &&& imm.1
  .next (setLAE r (writeReg w r d.2))

/-- ORI (R215). -/
def execOri (w : Reg) (s : State) : Host.Outcome State Fault Refusal :=
  let imm := fetch s
  let d := readReg w imm.2
  let r := d.1 ||| imm.1
  .next (setLAE r (writeReg w r d.2))

end Sys2Proof.Machine
end

