-- ==== Sys2Proof/Machine/Logic.lean ====
section
/-! DEFINITION. Logic, clear, set, swap and mask tests (42_memory_operate.md). -/

namespace Sys2Proof.Machine

/-- CLR (R184). -/
def execClr (dst : Operand) (s : State) : Host.Outcome State Fault Refusal :=
  let d := readOperand16 dst s
  .next (writeWord d.addr 0x0000 d.state)

/-- SETO (R185). -/
def execSeto (dst : Operand) (s : State) : Host.Outcome State Fault Refusal :=
  let d := readOperand16 dst s
  .next (writeWord d.addr 0xFFFF d.state)

/-- INV (R186). -/
def execInv (dst : Operand) (s : State) : Host.Outcome State Fault Refusal :=
  let d := readOperand16 dst s
  let r := ~~~d.value
  .next (setLAE r (writeWord d.addr r d.state))

/-- SWPB (R189). -/
def execSwpb (dst : Operand) (s : State) : Host.Outcome State Fault Refusal :=
  let d := readOperand16 dst s
  .next (writeWord d.addr (d.value.extractLsb' 0 8 ++ d.value.extractLsb' 8 8) d.state)

/-- XOR (R175). -/
def execXor (w : Reg) (src : Operand) (s : State) : Host.Outcome State Fault Refusal :=
  let a := readOperand16 src s
  let d := readReg w a.state
  let r := a.value ^^^ d.1
  .next (setLAE r (writeReg w r d.2))

/-- SOC (R190). -/
def execSoc (src dst : Operand) (s : State) : Host.Outcome State Fault Refusal :=
  let a := readOperand16 src s
  let d := readOperand16 dst a.state
  let r := d.value ||| a.value
  .next (setLAE r (writeWord d.addr r d.state))

/-- SOCB (R191). -/
def execSocb (src dst : Operand) (s : State) : Host.Outcome State Fault Refusal :=
  let a := readOperand8 src s
  let d := readOperand8 dst a.state
  let r := d.value ||| a.value
  .next (setParity r (setLAE r (writeOperand8 d r d.state)))

/-- SZC (R192). -/
def execSzc (src dst : Operand) (s : State) : Host.Outcome State Fault Refusal :=
  let a := readOperand16 src s
  let d := readOperand16 dst a.state
  let r := d.value &&& ~~~a.value
  .next (setLAE r (writeWord d.addr r d.state))

/-- SZCB (R193). -/
def execSzcb (src dst : Operand) (s : State) : Host.Outcome State Fault Refusal :=
  let a := readOperand8 src s
  let d := readOperand8 dst a.state
  let r := d.value &&& ~~~a.value
  .next (setParity r (setLAE r (writeOperand8 d r d.state)))

/-- COC (R195). -/
def execCoc (w : Reg) (src : Operand) (s : State) : Host.Outcome State Fault Refusal :=
  let a := readOperand16 src s
  let d := readReg w a.state
  .next (d.2.setFlag .eq (a.value &&& ~~~d.1 == 0))

/-- CZC (R196). -/
def execCzc (w : Reg) (src : Operand) (s : State) : Host.Outcome State Fault Refusal :=
  let a := readOperand16 src s
  let d := readReg w a.state
  .next (d.2.setFlag .eq (a.value &&& d.1 == 0))

end Sys2Proof.Machine
end

