-- ==== Sys2Proof/Machine/Move.lean ====
section
/-! DEFINITION. MOV and MOVB (41_move.md). -/

namespace Sys2Proof.Machine

/-- MOV (R161): the destination is read, its value is not used (R67). -/
def execMov (src dst : Operand) (s : State) : Host.Outcome State Fault Refusal :=
  let a := readOperand16 src s
  let d := readOperand16 dst a.state
  .next (setLAE a.value (writeWord d.addr a.value d.state))

/-- MOVB (R162). -/
def execMovb (src dst : Operand) (s : State) : Host.Outcome State Fault Refusal :=
  let a := readOperand8 src s
  let d := readOperand8 dst a.state
  .next (setParity a.value (setLAE a.value (writeOperand8 d a.value d.state)))

end Sys2Proof.Machine
end

