-- ==== Sys2Proof/Machine/Shift.lean ====
section
/-! DEFINITION. The shifts and rotate SLA, SRA, SRL, SRC (45_shift.md). -/

namespace Sys2Proof.Machine

/-- `ShiftCount(C)` (R250): 1 to 16, and the state after R0 has been read, which happens only when the field is 0. -/
def shiftCount (cnt : BitVec 4) (s : State) : Nat × State :=
  if cnt = 0 then
    let r0 := readReg 0 s
    let k := r0.1.toNat % 16
    (if k = 0 then 16 else k, r0.2)
  else (cnt.toNat, s)

/-- SLA's overflow (R251): the bits d[15] to d[15 - n] are not all the same, where the bit below d[0] is 0. -/
def slaOverflow (d : Word) (n : Nat) : Bool :=
  let e : BitVec 17 := d ++ 0#1
  !((List.range (n + 1)).all fun k => e.getLsbD (16 - k) == e.getLsbD 16)

/-- The common part of SRA, SRL and SRC (R252 to R254): the result `f d n`, and in C the last bit shifted out of bit
0. -/
def shiftRight (f : Word → Nat → Word) (cnt : BitVec 4) (w : Reg) (s : State) : State :=
  let d := readReg w s
  let n := shiftCount cnt d.2
  let r := f d.1 n.1
  setLAE r ((writeReg w r n.2).setFlag .c (d.1.getLsbD (n.1 - 1)))

/-- SLA (R251). -/
def execSla (cnt : BitVec 4) (w : Reg) (s : State) : Host.Outcome State Fault Refusal :=
  let d := readReg w s
  let n := shiftCount cnt d.2
  let r := d.1 <<< n.1
  .next (setLAE r (((writeReg w r n.2).setFlag .c (d.1.getLsbD (16 - n.1))).setFlag .ov (slaOverflow d.1 n.1)))

/-- SRA (R252). -/
def execSra (cnt : BitVec 4) (w : Reg) (s : State) : Host.Outcome State Fault Refusal :=
  .next (shiftRight (fun d n => d.sshiftRight n) cnt w s)

/-- SRL (R253). -/
def execSrl (cnt : BitVec 4) (w : Reg) (s : State) : Host.Outcome State Fault Refusal :=
  .next (shiftRight (fun d n => d >>> n) cnt w s)

/-- SRC (R254). -/
def execSrc (cnt : BitVec 4) (w : Reg) (s : State) : Host.Outcome State Fault Refusal :=
  .next (shiftRight (fun d n => d.rotateRight (n % 16)) cnt w s)

end Sys2Proof.Machine
end

