-- ==== Sys2Proof/Machine/System.lean ====
section
/-! DEFINITION. Status, interrupt mask, XOP, X and the externally defined instructions (46_status_interrupt.md,
47_execute_external.md). -/

namespace Sys2Proof.Machine

/-- STST (R260). -/
def execStst (w : Reg) (s : State) : Host.Outcome State Fault Refusal :=
  .next (writeReg w s.st s)

/-- STWP (R261). -/
def execStwp (w : Reg) (s : State) : Host.Outcome State Fault Refusal :=
  .next (writeReg w s.wp s)

/-- LIMI (R262). -/
def execLimi (s : State) : Host.Outcome State Fault Refusal :=
  let imm := fetch s
  .next (imm.2.setMask (imm.1.extractLsb' 0 4))

/-- XOP (R263): the context switch through vector 0x0040 + 4n, with the operand's effective address in the new R11
(D13). -/
def execXop (n : BitVec 4) (src : Operand) (s : State) : Host.Outcome State Fault Refusal :=
  let a := readOperand16 src s
  let t := contextSwitch (0x0040 + 4 * n.setWidth 16) (some a.addr) a.state
  let u := match s.cfg.part with
    | .tms9940 => t
    | _ => t.setFlag .x true
  .next (u.setInhibit true)

/-- X (R270): the word at the operand is the one to execute next, within this same instruction (`runWord`,
`drain`). -/
def execX (src : Operand) (s : State) : Host.Outcome State Fault Refusal :=
  let a := readOperand16 src s
  .next (a.state.setXword (some a.value))

/-- IDLE (R271). -/
def execIdle (s : State) : Host.Outcome State Fault Refusal :=
  .next ((extCtl 0b010 s).setHalted true)

/-- RSET (R272). -/
def execRset (s : State) : Host.Outcome State Fault Refusal :=
  .next (extCtl 0b011 (s.setMask 0))

/-- CKOF (R273). -/
def execCkof (s : State) : Host.Outcome State Fault Refusal :=
  .next (extCtl 0b110 s)

/-- CKON (R274). -/
def execCkon (s : State) : Host.Outcome State Fault Refusal :=
  .next (extCtl 0b101 s)

/-- LREX (R275). -/
def execLrex (s : State) : Host.Outcome State Fault Refusal :=
  .next (extCtl 0b111 s)

end Sys2Proof.Machine
end

