-- ==== Sys2Proof/Machine/Tms9940.lean ====
section
/-! DEFINITION. The TMS 9940's DCA, DCS and LIIM (48_tms9940.md). -/

namespace Sys2Proof.Machine

/-- The default of `DCA_FN` (R280, D21): the corrected byte and the carry. -/
def dcaDefault (b : Byte) (c ac : Bool) : Byte × Bool :=
  let low : Byte := if ac || 9 < b.toNat % 16 then 0x06 else 0
  let high : Byte := if c || 0x99 < b.toNat then 0x60 else 0
  (b + (low + high), c || 0x99 < b.toNat)

/-- The default of `DCS_FN` (R281, D21): the carry is passed through. -/
def dcsDefault (b : Byte) (c ac : Bool) : Byte × Bool :=
  let low : Byte := if ac then 0 else 0x06
  let high : Byte := if c then 0 else 0x60
  (b - (low + high), c)

/-- A parameter that is a function of a byte, C and AC: its row for them, else the default (D21). -/
def bcdFn (rows : List BcdRow) (default : Byte × Bool) (b : Byte) (c ac : Bool) : Byte × Bool :=
  match rows.find? fun r => r.byte == b && r.c == c && r.ac == ac with
  | some r => (r.result, r.carry)
  | none => default

/-- `DCA_FN` of a system (R280). -/
def dcaFn (p : Platform) (b : Byte) (c ac : Bool) : Byte × Bool := bcdFn p.dcaRows (dcaDefault b c ac) b c ac

/-- `DCS_FN` of a system (R281). -/
def dcsFn (p : Platform) (b : Byte) (c ac : Bool) : Byte × Bool := bcdFn p.dcsRows (dcsDefault b c ac) b c ac

/-- DCA (R280). -/
def execDca (dst : Operand) (s : State) : Host.Outcome State Fault Refusal :=
  let d := readOperand8 dst s
  let r := dcaFn s.cfg d.value (d.state.flag .c) (d.state.flag .ac)
  .next (setParity r.1 (setLAE r.1 ((writeOperand8 d r.1 d.state).setFlag .c r.2)))

/-- DCS (R281). -/
def execDcs (dst : Operand) (s : State) : Host.Outcome State Fault Refusal :=
  let d := readOperand8 dst s
  let r := dcsFn s.cfg d.value (d.state.flag .c) (d.state.flag .ac)
  .next (setParity r.1 (setLAE r.1 ((writeOperand8 d r.1 d.state).setFlag .c r.2)))

/-- LIIM (R282). -/
def execLiim (_dontCare : BitVec 5) (n : BitVec 2) (s : State) : Host.Outcome State Fault Refusal :=
  .next (s.setMask (n.setWidth 4))

end Sys2Proof.Machine
end

