-- ==== Sys2Proof/Machine/Run.lean ====
section
/-! DEFINITION. `Execute(w)` (R132) and the X instruction's chain (R270). -/

namespace Sys2Proof.Machine

/-- A word of no row is refused by name (R130, D11). -/
def refuseWord (w : Word) : Host.Outcome State Fault Refusal := .refused (.undefinedOpcode w)

/-- A word of no row: UNDEFINED_OPCODE says what it does (R130, D11, U5). -/
def runUndefined (w : Word) (s : State) : Host.Outcome State Fault Refusal :=
  match s.cfg.undefinedRule with
  | .refuse => refuseWord w
  | .noOperation => .next s
  | .executeAs keep set =>
    match decode s.cfg.part (w &&& keep ||| set) with
    | .ok i => exec i s
    | .error _ => refuseWord w

/-- `Execute(w)` (R132). -/
def runWord (w : Word) (s : State) : Host.Outcome State Fault Refusal :=
  match decode s.cfg.part w with
  | .ok i => exec i s
  | .error _ => runUndefined w s

/-- The word an X instruction has read is executed at once, and the word that one reads if it is an X too (R270). What
is left of a chain after `n` words is executed by the next step, before anything else can happen (log entries 21, 22).
-/
def drain : Nat → State → Host.Outcome State Fault Refusal
  | 0, s => .next s
  | n + 1, s =>
    match s.xword with
    | none => .next s
    | some w =>
      match runWord w (s.setXword none) with
      | .next t => drain n t
      | .fault f => .fault f
      | .refused r => .refused r

/-- `Execute(w)` of an instruction word that has been fetched, with the chain it starts. -/
def execute (w : Word) (s : State) : Host.Outcome State Fault Refusal :=
  drain Config.executeDepth (s.setXword (some w))

end Sys2Proof.Machine
end

