-- ==== Sys2Proof/Machine/Cycle.lean ====
section
/-! DEFINITION. One step of the machine, after its inputs have been sampled (R310, R331, R340). -/

namespace Sys2Proof.Machine

/-- Fetch and execute, or nothing in the Halt state (R310, R340). -/
def fetchExecute (s : State) : Host.Outcome State Fault Refusal :=
  if s.halted then .next s
  else
    let w := fetch s
    execute w.1 w.2

/-- The tests of R310 once RESET is out of the way: LOAD, then the accepted level, both held off by `inhibit`. -/
def instructionStep (s : State) : Host.Outcome State Fault Refusal :=
  if !s.inhibit && loadReq s.cfg.part s.dev.pins then .next (doLoad s)
  else
    match (if s.inhibit then none else acceptedIrq s) with
    | some n => .next (doInterrupt n s)
    | none => fetchExecute (s.setInhibit false)

/-- A step while the CPU holds: nothing of it changes (R331). A TMS 9940 that is halted as well acknowledges a request
the mask admits (R378: in the standby circuit IDLE is tied to HLD, and "any arriving interrupt request will be
acknowledged"); the spec does not say whether it does so in a Hold that another agent asked for, and the model lets it
(DESIGN CHOICE: log entry 43). -/
def holdStep (s : State) : Host.Outcome State Fault Refusal :=
  match s.cfg.part with
  | .tms9940 =>
    match (if s.halted && !s.inhibit then acceptedIrq s else none) with
    | some n => .next (doInterrupt n s)
    | none => .next s
  | _ => .next s

/-- `Step()` (R310). While RESET is low the CPU executes nothing (R320); while it holds nothing of it changes (R331);
a chain of X instructions goes on before any test (R270, R311). RESET released while HOLD is low: the spec leaves the
order open, and the model lets the RESET sequence wait until HOLD is high; on a TMS 9940 it does not wait, since RESET
clears CB3, which makes the pin HLD (R372, R374) (DESIGN CHOICE: log entry 19). -/
def cycle (s : State) : Host.Outcome State Fault Refusal :=
  if resetHeld s.cfg.part s.dev.pins then .next s
  else if s.dev.resetDue && !s.busGranted then .next (doReset s)
  else if s.held then holdStep s
  else if s.xword.isSome then drain Config.executeDepth s
  else instructionStep s

/-- The outcome of a step: refused where external logic has driven a pin of a TMS 9901 that was in output mode (U15; log
entry 37). -/
def settle (o : Host.Outcome State Fault Refusal) : Host.Outcome State Fault Refusal :=
  match o with
  | .next t =>
    match t.dev.misdriven with
    | some (u, k) => .refused (.psiOutputDriven u k)
    | none => .next t
  | .fault f => .fault f
  | .refused r => .refused r

/-- The two bytes of a word and four bytes 0 after it, stored where the next instruction is fetched, whatever stands
there: a load from outside the machine (log entry 40). -/
def storeProgram (s : State) (w : Word) : State :=
  let put (m : Memory) (k : Nat) (b : Byte) : Memory :=
    Memory.write m (busAddr s.cfg.part (s.pc + BitVec.ofNat 16 k)) b
  let bytes : List (Nat × Byte) :=
    [(0, w.extractLsb' 8 8), (1, w.extractLsb' 0 8), (2, 0), (3, 0), (4, 0), (5, 0)]
  s.setMem (bytes.foldl (fun m c => put m c.1 c.2) s.mem)

/-- The part that has the word, `p` wherever it does: DCA, DCS and LIIM are the TMS 9940's, RSET, CKON, CKOF and LREX
are not (R122; log entry 41). -/
def partFor (p : Part) (w : Word) : Part :=
  if w.extractLsb' 8 8 = 0x2C#8 then .tms9940
  else if w = 0x0360 ∨ w = 0x03A0 ∨ w = 0x03C0 ∨ w = 0x03E0 then (if p = .tms9940 then .tms9900 else p)
  else p

end Sys2Proof.Machine
end

