-- ==== Sys2Proof/Machine/Step.lean ====
section
/-! DEFINITION. The step of the machine (R310), and an instruction put where it fetches. -/

namespace Sys2Proof.Machine

/-- One step: the inputs of this step, then `Step()`. -/
def step (s : State) : Host.Outcome State Fault Refusal := settle (cycle (sample s))

/-- `s` with the instruction stored at `pc`, on a part that has it; operand words are 0. Log entries 40, 41. -/
def State.withFetchWord (s : State) (nbits w : Nat) : State :=
  let t : State := { s with cfg := { s.cfg with part := partFor s.cfg.part (tableWord nbits w) } }
  storeProgram t (tableWord nbits w)

end Sys2Proof.Machine
end

