-- ==== Sys2Proof/Safety.lean ====
section
/-! DEFINITION. What holds of the machine throughout: the invariant claims use (R26, R34, R42, R61; log entry 2), the
part of the state that a CPU instruction's memory accesses leave alone, and where a state's memory can be relied on. -/

namespace Sys2Proof.Machine

/-- `pc` and `wp` are even (R26, R42), `st` has only bits that exist (R34), memory is in its canonical form and lists
only addresses that exist (R61), and external logic has driven no pin in output mode (U15). -/
def State.Inv (s : State) : Prop :=
  s.pc.getLsbD 0 = false ∧ s.wp.getLsbD 0 = false ∧ s.st &&& ~~~stImpl s.cfg.part = 0 ∧ Memory.wf s.mem = true ∧
    Memory.below s.mem (busSize s.cfg.part) = true ∧ s.dev.misdriven = none

/-- A byte address holds what memory holds: RAM or ROM (R74). -/
def State.holds (s : State) (a : Word) : Bool :=
  kindAt s.cfg a == .ram || kindAt s.cfg a == .rom

/-- The word at an address is in RAM or ROM. -/
def State.holdsWord (s : State) (a : Word) : Bool := s.holds (even a) && s.holds (even a + 1)

/-- A byte address keeps what is written to it. -/
def State.keeps (s : State) (a : Word) : Bool := kindAt s.cfg a == .ram

/-- The word at an address keeps what is written to it. -/
def State.keepsWord (s : State) (a : Word) : Bool := s.keeps (even a) && s.keeps (even a + 1)

/-- The devices, less what watching the bus changes: the record of bus events, and of the TMS 9901s the level on S0 and
the Clock Read Buffer (R395). -/
def Devices.unwatched (d : Devices) : Devices :=
  { d with log := [], psi := d.psi.map fun p => { p with s0 := false, clkread := 0 } }

/-! ## What an instruction leaves and what it writes, in terms of bytes of memory and bits of `st` -/

/-- The parameters, the conditions and the inputs to come are as before. -/
def KeptCpu (s t : State) : Prop :=
  t.cfg = s.cfg ∧ t.halted = s.halted ∧ t.inhibit = s.inhibit ∧ t.xword = s.xword ∧ t.env = s.env ∧
    t.during = s.during

/-- Everything but `pc`, `wp`, `st` and memory is as before: the devices too, less what watching the bus changes. -/
def Kept (s t : State) : Prop := KeptCpu s t ∧ t.dev.unwatched = s.dev.unwatched

/-- Two addresses are one place in memory (R61). -/
def samePlace (s : State) (a b : Word) : Prop := busAddr s.cfg.part a = busAddr s.cfg.part b

/-- No byte of memory differs. -/
def MemKept (s t : State) : Prop := ∀ b : Word, t.peekByte b = s.peekByte b

/-- Memory after byte `v` is stored at `a`: the byte, where the place keeps what is written, and no other byte. -/
def ByteStored (s t : State) (a : Word) (v : Byte) : Prop :=
  (s.keeps a = true → t.peekByte a = v) ∧
    ∀ b : Word, (s.keeps a = true → ¬ samePlace s b a) → t.peekByte b = s.peekByte b

/-- Memory after word `v` is stored at `a`, bit 0 of `a` ignored: the high-order byte at the even address and the
low-order byte after it, where the places keep what is written, and no other byte (R62 to R64). -/
def WordStored (s t : State) (a v : Word) : Prop :=
  (s.keeps (even a) = true → t.peekByte (even a) = v.extractLsb' 8 8) ∧
    (s.keeps (even a + 1) = true → t.peekByte (even a + 1) = v.extractLsb' 0 8) ∧
    ∀ b : Word, (s.keeps (even a) = true → ¬ samePlace s b (even a)) →
      (s.keeps (even a + 1) = true → ¬ samePlace s b (even a + 1)) → t.peekByte b = s.peekByte b

/-- Every bit of `st` but the listed flags is as before. -/
def StKeptBut (fs : List Flag) (s t : State) : Prop :=
  ∀ k : Nat, (∀ f ∈ fs, flagBit f ≠ k) → t.st.getLsbD k = s.st.getLsbD k

/-- Everything but memory and the listed flags is as before. -/
def Frame (fs : List Flag) (s t : State) : Prop := StKeptBut fs s t ∧ t.pc = s.pc ∧ t.wp = s.wp ∧ Kept s t

/-- How many 1 bits a byte has. -/
def onesIn (b : Byte) : Nat := ((List.range 8).filter fun k => b.getLsbD k).length

/-- OP is 1 exactly when the byte has an odd number of 1 bits (R38). -/
def ParityOf (t : State) (b : Byte) : Prop := t.flag .op = decide (onesIn b % 2 = 1)

/-- The conditional jump `j` (R230): taken exactly when the condition holds, to the word DISP words from the next one,
addresses modulo 2^16; nothing else changes. -/
def JumpsWhen (j : BitVec 8 → Instr) (cond : State → Prop) : Prop :=
  ∀ (disp : BitVec 8) (s : State), s.pc.getLsbD 0 = false →
    ∃ t, exec (j disp) s = .next t ∧ t = { s with pc := t.pc } ∧
      (cond s → (t.pc.toNat : Int) = (s.pc.toNat + 2 * disp.toInt) % 65536) ∧ (¬ cond s → t.pc = s.pc)

/-- L>, A> and EQ describe a value compared with 0 (R35). -/
def LaeOf {w : Nat} (t : State) (v : BitVec w) : Prop :=
  t.flag .l = decide (0 < v.toNat) ∧ t.flag .a = decide (0 < v.toInt) ∧ t.flag .eq = decide (v.toNat = 0)

/-- L>, A> and EQ describe the comparison of `a` with `b` (R36). -/
def CmpOf {w : Nat} (t : State) (a b : BitVec w) : Prop :=
  t.flag .l = decide (b.toNat < a.toNat) ∧ t.flag .a = decide (b.toInt < a.toInt) ∧ t.flag .eq = decide (a = b)

/-- The flags an add or subtract writes on the part: AC on the TMS 9940 only (R39, R170). -/
def arithFlagList (p : Part) (fs : List Flag) : List Flag := if p = .tms9940 then .ac :: fs else fs

/-- External logic drove pin Pk of TMS 9901 number `u` while it was in output mode, in the inputs of this step: at an
event of its batch, at a point where the pin is in output mode, at an event between two bus cycles, or in a reaction
to an external-instruction code. -/
def State.drivenInStep (s : State) (u : Nat) (k : Fin 16) : Prop :=
  (∃ pre level post later, s.env = (pre ++ Event.platform (.dev (.psiP u k level)) :: post) :: later ∧
      (applyEvents pre (s.setEnv later)).psiOutput u k = true) ∨
    (∃ batch level, batch ∈ s.during ∧ MidEvent.dev (.psiP u k level) ∈ batch) ∨
    ∃ r level, r ∈ s.cfg.extCtl ∧ PlatformEvent.dev (.psiP u k level) ∈ r.now

/-- What a cycle of an external-instruction code leaves and what it does: the event, and the reaction EXT_CTL gives to
the code, none where it gives none (R85, R276, D28). -/
def ExtCycle (code : BitVec 3) (s t : State) : Prop :=
  t.dev.log = .extCtl code :: s.dev.log ∧ MemKept s t ∧ t.pc = s.pc ∧ t.wp = s.wp ∧ t.cfg = s.cfg ∧
    t.inhibit = s.inhibit ∧ t.xword = s.xword ∧ t.during = s.during ∧
    ((∀ r ∈ s.cfg.extCtl, r.code ≠ code) → t.env = s.env ∧ t.dev.unwatched = s.dev.unwatched) ∧
    ∀ r rest, s.cfg.extCtl = r :: rest → r.code = code →
      t.dev = (r.now.foldl applyPlatform ((s.emit (.extCtl code)).seeAddr 0)).dev ∧ t.env = joinEnv r.later s.env

/-- No RESET, HOLD or unfinished instruction stands in the way of an instruction boundary, no input is due, at the
boundary or within the instruction, and neither LOAD nor an accepted level interrupts (R310). -/
def State.ready (s : State) : Prop :=
  s.env = [] ∧ s.during = [] ∧ s.dev.misdriven = none ∧ resetHeld s.cfg.part s.dev.pins = false ∧
    s.dev.resetDue = false ∧ s.held = false ∧ s.xword = none ∧ s.halted = false ∧
    (s.inhibit = true ∨ (loadReq s.cfg.part s.dev.pins = false ∧ acceptedIrq s = none))

end Sys2Proof.Machine
end

