-- ==== Sys2Proof/Certificates/Slice0/Obligations.lean ====
section
/-! DEFINITION. The statements for the provers. Where a statement rests on a passage that the spec marks as its own
decision or as general knowledge, its docstring names the log entry. The premise `s.during = []` says that nothing from
outside comes between the bus cycles of the instruction; what happens where something does is said of each access, in
`memory_access` and `cru_transfers` (log entry 48). -/

open Sys2Proof Sys2Proof.Machine

/-! ## Encoding -/

/-- Decode of encode: every well-formed instruction of a part, with every operand at every value, decodes from its word
and from its bytes (R103, R104, R120, R122). -/
def Obligations.decode_of_encode : Prop :=
  ∀ (p : Part) (i : Instr) (rest : List Byte), i.wf p = true →
    decode p (encode i) = .ok i ∧ decodeBytes p (encodeBytes i ++ rest) = .ok (i, rest)

/-- Encode of decode: a word that decodes is the word of the instruction it decodes to, and that is well formed, so that
no two words are one instruction. That LIIM keeps its don't-care bits is the model's choice: log entry 25. -/
def Obligations.encode_of_decode : Prop :=
  ∀ (p : Part) (w : Word) (i : Instr), decode p w = .ok i → encode i = w ∧ i.wf p = true

/-- The undefined words are those of R130's list, and on the TMS 9940 four more (R122). -/
def Obligations.undefined_words : Prop :=
  ∀ (p : Part) (w : Word), decode p w = .error (.undefinedOpcode w) ↔
    (w.toNat ≤ 0x01FF ∨
      (0x0200 ≤ w.toNat ∧ w.toNat ≤ 0x02DF ∧ w.getLsbD 4 = true) ∨
      (0x02E1 ≤ w.toNat ∧ w.toNat ≤ 0x02FF) ∨ (0x0301 ≤ w.toNat ∧ w.toNat ≤ 0x033F) ∨
      (0x0341 ≤ w.toNat ∧ w.toNat ≤ 0x035F) ∨ (0x0361 ≤ w.toNat ∧ w.toNat ≤ 0x037F) ∨
      (0x0381 ≤ w.toNat ∧ w.toNat ≤ 0x039F) ∨ (0x03A1 ≤ w.toNat ∧ w.toNat ≤ 0x03BF) ∨
      (0x03C1 ≤ w.toNat ∧ w.toNat ≤ 0x03DF) ∨ (0x03E1 ≤ w.toNat ∧ w.toNat ≤ 0x03FF) ∨
      (0x0780 ≤ w.toNat ∧ w.toNat ≤ 0x07FF) ∨ (0x0C00 ≤ w.toNat ∧ w.toNat ≤ 0x0FFF) ∨
      (p = .tms9940 ∧ (w = 0x0360 ∨ w = 0x03A0 ∨ w = 0x03C0 ∨ w = 0x03E0)))

/-- A few words written out from the table of R120 decode to the instructions they stand for (R120). The mode codes
00, 01 and 11 of operands are R104's, which the spec supplies from general knowledge: log entry 15 (G8). -/
def Obligations.words_from_the_table : Prop :=
  decode .tms9900 0b1010_00_0010_00_0001#16 = .ok (.a (.reg 1) (.reg 2)) ∧
    decode .tms9900 0b1100_11_0010_10_0001#16 = .ok (.mov (.indexed 1) (.autoInc 2)) ∧
    decode .tms9980 0b000000100000_1100#16 = .ok (.li 12) ∧
    decode .tms9900 0b0000010001_01_1011#16 = .ok (.b (.ind 11)) ∧
    decode .tms9900 0b00001010_0001_0001#16 = .ok (.sla 1 1) ∧
    decode .tms9900 0b00010110_11111100#16 = .ok (.jne 0xFC) ∧
    decode .tms9900 0b001011_0010_10_0000#16 = .ok (.xop 2 .direct) ∧
    decode .tms9940 0b0010110000_00_0010#16 = .ok (.dca (.reg 2)) ∧
    decode .tms9940 0b001011001_11111_10#16 = .ok (.liim 31 2)

/-! ## Memory, registers and operands -/

/-- A word in memory is its high-order byte at the even address and its low-order byte after it (C1: log entry 44),
and bit 0 of a word's address is ignored (G6: log entry 15); a read changes no byte; a word or byte stored is what is
read back, and no other byte changes: a byte is written with the other byte of its word as the read before it found it
(D9: log entry 38). Where a place keeps nothing (ROM, absent, a device) no byte changes (log entry 47). An access that
a batch of outside events comes before is the access after those events; a DMA write of a TMS 9900 stores a word, of a
TMS 9980 a byte (R78; when they come is D10: log entries 34, 48). -/
def Obligations.memory_access : Prop :=
  ∀ (a v : Word) (b : Byte) (s : State), s.during = [] →
    (s.holdsWord a = true → (readWord a s).1 = s.peekByte (even a) ++ s.peekByte (even a + 1)) ∧
      (s.holds a = true → (readByte a s).1 = s.peekByte a) ∧
      MemKept s (readWord a s).2 ∧ MemKept s (readByte a s).2 ∧
      WordStored s (writeWord a v s) a v ∧
      ByteStored s (writeByte a (readWord a s).1 b (readWord a s).2) a b ∧
      (s.keepsWord a = true → (readWord a (writeWord a v s)).1 = v) ∧
      (s.keeps a = true → (readByte a (writeByte a (readWord a s).1 b (readWord a s).2)).1 = b) ∧
      Frame [] s (readWord a s).2 ∧ Frame [] s (readByte a s).2 ∧ Frame [] s (writeWord a v s) ∧
      Frame [] s (writeByte a (readWord a s).1 b (readWord a s).2) ∧
      (∀ batch later, let u := batch.foldl applyMid s
        readWord a (s.setDuring (batch :: later)) = ((readWord a u).1, (readWord a u).2.setDuring later) ∧
          writeWord a v (s.setDuring (batch :: later)) = (writeWord a v u).setDuring later) ∧
      (s.cfg.part = .tms9900 → WordStored s (applyMid s (.dmaWrite a v)) a v) ∧
      (s.cfg.part = .tms9980 → ByteStored s (applyMid s (.dmaWrite a v)) a (v.extractLsb' 0 8)) ∧
      (s.cfg.part = .tms9940 → applyMid s (.dmaWrite a v) = s) ∧ MemKept s (applyMid s (.dmaRead a))

/-- Workspace register r is the memory word at wp + 2r (R22): a register write is a store there, a read gives what is
there. `Fetch()` (R70) gives the word at `pc`, and `pc` two higher. That both sums wrap modulo 2^16 is the spec's own
decision D4: log entry 12. -/
def Obligations.registers_and_fetch : Prop :=
  (∀ (r : Reg) (v : Word) (s : State), s.during = [] →
    let a : Word := BitVec.ofNat 16 (s.wp.toNat + 2 * r.toNat)
    (s.holdsWord a = true → (readReg r s).1 = s.peekWord a) ∧
      WordStored s (writeReg r v s) a v ∧ Frame [] s (writeReg r v s) ∧
      MemKept s (readReg r s).2 ∧ Frame [] s (readReg r s).2 ∧
      (s.keepsWord a = true → (readReg r (writeReg r v s)).1 = v)) ∧
  ∀ s : State, s.during = [] → s.pc.getLsbD 0 = false →
    (s.holdsWord s.pc = true → (fetch s).1 = s.peekWord s.pc) ∧
      (fetch s).2.pc.toNat = (s.pc.toNat + 2) % 65536 ∧ MemKept s (fetch s).2 ∧
      (fetch s).2.st = s.st ∧ (fetch s).2.wp = s.wp ∧ Kept s (fetch s).2

/-- The effective address of each operand mode, and what computing it changes (R110): nothing but `pc` for an
extension word, and the register for auto-increment, which becomes 1 or 2 higher. The mode codes, and sums modulo
2^16: log entries 15 (G8), 12 (D4). -/
def Obligations.effective_address : Prop :=
  ∀ (r : Reg) (z : Size) (s : State), s.during = [] →
    effAddr (.reg r) z s = (s.wp + 2 * r.setWidth 16, s) ∧
    ((s.holdsWord (regAddr s r) = true → (effAddr (.ind r) z s).1 = s.peekReg r) ∧
      MemKept s (effAddr (.ind r) z s).2 ∧ Frame [] s (effAddr (.ind r) z s).2) ∧
    ((s.holdsWord s.pc = true → (effAddr .direct z s).1 = s.peekWord s.pc) ∧
      MemKept s (effAddr .direct z s).2 ∧
      Frame [] (s.setPc (s.pc + 2)) (effAddr .direct z s).2) ∧
    ((s.holdsWord s.pc = true → s.holdsWord (regAddr s r) = true →
        (effAddr (.indexed r) z s).1 = s.peekWord s.pc + s.peekReg r) ∧
      MemKept s (effAddr (.indexed r) z s).2 ∧
      Frame [] (s.setPc (s.pc + 2)) (effAddr (.indexed r) z s).2) ∧
    ((s.holdsWord (regAddr s r) = true →
        (effAddr (.autoInc r) z s).1 = s.peekReg r ∧
        WordStored s (effAddr (.autoInc r) z s).2 (regAddr s r)
          (s.peekReg r + match z with | .byte => 1 | .word => 2)) ∧
      Frame [] s (effAddr (.autoInc r) z s).2)

/-- An operand is the word, or the byte, at its effective address, as memory stands once the address is computed
(R110, R112). So a register that is auto-incremented and is its own operand is read incremented: the order is the
spec's own decision D25 (log entry 42), and C23 takes it against D1's prose (log entry 44). -/
def Obligations.operand_read : Prop :=
  ∀ (o : Operand) (s : State), s.during = [] →
    ((readOperand16 o s).addr = (effAddr o .word s).1 ∧
      ((effAddr o .word s).2.holdsWord (readOperand16 o s).addr = true →
        (readOperand16 o s).value = (effAddr o .word s).2.peekWord (readOperand16 o s).addr) ∧
      MemKept (effAddr o .word s).2 (readOperand16 o s).state ∧
      Frame [] (effAddr o .word s).2 (readOperand16 o s).state) ∧
    ((readOperand8 o s).addr = (effAddr o .byte s).1 ∧
      ((effAddr o .byte s).2.holds (readOperand8 o s).addr = true →
        (readOperand8 o s).value = (effAddr o .byte s).2.peekByte (readOperand8 o s).addr) ∧
      MemKept (effAddr o .byte s).2 (readOperand8 o s).state ∧
      Frame [] (effAddr o .byte s).2 (readOperand8 o s).state)

/-! ## The step of the machine -/

/-- A step runs the decoded instruction: at an instruction boundary with nothing to take, where the bytes at `pc`
decode to i, the step is `exec i` at the state after the fetch, and for X it is also the instruction X reads, with
`pc` as it stands after X (D16: log entry 42), in the same step (the model's own split of X: log entry 21; of a chain
of X instructions this says nothing). Around `exec` the step adds only `settle`, which refuses where external logic
has driven a pin in output mode (U15: log entry 37). -/
def Obligations.step_runs_decoded : Prop :=
  ∀ (i : Instr) (s : State), s.ready → s.pc.getLsbD 0 = false → s.holdsWord s.pc = true →
    decodeBytes s.cfg.part [s.peekByte s.pc, s.peekByte (s.pc + 1)] = .ok (i, []) →
    let u := (fetch (s.setInhibit false)).2
    ((∀ o, i ≠ .x o) → step s = settle (exec i u)) ∧
      (∀ o j, i = .x o → decode s.cfg.part (readOperand16 o u).value = .ok j → (∀ o', j ≠ .x o') →
        step s = settle (exec j (readOperand16 o u).state)) ∧
      ∀ t : State, t.dev.misdriven = none → settle (.next t) = .next t

/-- A word of no row (R130), fetched or read by X: by the default of UNDEFINED_OPCODE it is refused by name; where the
parameter makes it do nothing, the step ends after the word is read; where the parameter gives it another word's
meaning, it is that instruction, and is refused if that word is undefined too. That the default refuses is the spec's
own decision D11, and the other treatments are the model's reading of a parameter the spec leaves open: log entry 23.
-/
def Obligations.undefined_word_refused : Prop :=
  ∀ s : State, s.ready →
    let p := s.cfg.part
    let f := fetch (s.setInhibit false)
    let treated (w : Word) (t : State) : Prop :=
      (s.cfg.undefinedRule = .refuse → step s = .refused (.undefinedOpcode w)) ∧
        (s.cfg.undefinedRule = .noOperation → step s = .next t) ∧
        ∀ keep set, s.cfg.undefinedRule = .executeAs keep set →
          (∀ i, decode p ((w &&& keep) ||| set) = .ok i → (∀ o, i ≠ .x o) → step s = settle (exec i t)) ∧
            ∀ e, decode p ((w &&& keep) ||| set) = .error e → step s = .refused (.undefinedOpcode w)
    (∀ e, decode p f.1 = .error e → treated f.1 f.2) ∧
      ∀ o e, decode p f.1 = .ok (.x o) → decode p (readOperand16 o f.2).value = .error e →
        treated (readOperand16 o f.2).value (readOperand16 o f.2).state

/-- X reads its operand word, changes no memory but an auto-incremented register and no flag (R270). That it leaves
the word in `State.xword`, to be executed next, is the model's own split of X: log entry 21; that this is with `pc` as
it stands is the spec's own decision D16: log entry 42. -/
def Obligations.x_reads_the_word : Prop :=
  ∀ (src : Operand) (s : State), s.during = [] →
    ∃ t, exec (.x src) s = .next t ∧ t.xword = some (readOperand16 src s).value ∧
      MemKept (readOperand16 src s).state t ∧ t.pc = (readOperand16 src s).state.pc ∧ t.st = s.st ∧ t.wp = s.wp ∧
      t.cfg = s.cfg ∧ t.halted = s.halted ∧ t.inhibit = s.inhibit ∧ t.dev.unwatched = s.dev.unwatched

/-- Every step keeps the invariant: `pc` and `wp` even, `st` without bits that do not exist, memory in canonical form
and within the address space, no pin of a TMS 9901 driven in output mode (U15: log entry 37). The even `pc` and `wp`
and the absent bits are the spec's own decisions: log entries 12, 14. -/
def Obligations.step_keeps_invariant : Prop :=
  ∀ s t : State, s.Inv → step s = .next t → t.Inv

/-- The invariant holds after reset, of every part. -/
def Obligations.reset_invariant : Prop := ∀ p : Part, (State.resetOn p).Inv

/-- After reset (R43): `wp` and `pc` are the first two words of memory, the mask is 0, the CPU is not halted, its first
instruction is shielded, and the TMS 9940's configuration bits are 0. The shield is the spec's own decision (log entry
17); that memory reads
0, and that the part is the TMS 9900, are the model's choices (log entries 2, 1). -/
def Obligations.reset_values : Prop :=
  ∀ p : Part,
    (State.resetOn p).wp = even ((State.resetOn p).peekWord 0) ∧
      (State.resetOn p).pc = even ((State.resetOn p).peekWord 2) ∧ (State.resetOn p).maskLevel = 0 ∧
      (State.resetOn p).halted = false ∧ (State.resetOn p).inhibit = true ∧ (State.resetOn p).dev.chip.cb = 0 ∧
      State.reset = State.resetOn .tms9900

/-- No instruction faults or refuses: each has a next state, in every state (R301, R133). -/
def Obligations.every_instruction_completes : Prop :=
  ∀ (i : Instr) (s : State), ∃ t, exec i s = .next t

/-- A step never faults, and it is refused only for a word of no row, unless UNDEFINED_OPCODE makes such words do
nothing (log entry 23), or because external logic drives a pin of a TMS 9901 while it is in output mode (U15: log
entry 37): by an event of this step's batch at a point where the pin is in output mode, by an event between two bus
cycles, or in a reaction of the system to an external-instruction code (EXT_CTL: log entry 45); and such an event is
held against external logic exactly where the pin is in output mode (R130, R301, R393). -/
def Obligations.only_refusals : Prop :=
  (∀ s : State, s.dev.misdriven = none →
    (∃ t, step s = .next t) ∨
      (∃ w, step s = .refused (.undefinedOpcode w) ∧ decode s.cfg.part w = .error (.undefinedOpcode w) ∧
        s.cfg.undefinedRule ≠ .noOperation) ∨
      ∃ u k, step s = .refused (.psiOutputDriven u k) ∧ s.drivenInStep u k) ∧
  ∀ (u : Nat) (k : Fin 16) (level : Bool) (s : State),
    (applyDev (.psiP u k level) s).dev.misdriven =
      if s.psiOutput u k = true then some (u, k) else s.dev.misdriven

/-- The parameters never change, and no step changes a byte of ROM but a load from outside (R74; that a write to ROM is
ignored is the spec's own decision, log entry 47). -/
def Obligations.rom_and_parameters_kept : Prop :=
  ∀ s t : State, step s = .next t →
    t.cfg = s.cfg ∧
      ((∀ batch later, s.env = batch :: later → ∀ a b, Event.hostLoad a b ∉ batch) →
        ∀ a : Word, (∀ b : Word, samePlace s b a → kindAt s.cfg b ≠ .ram) → t.peekByte a = s.peekByte a)

/-- Only LIMI, LIIM, RSET and RTWP change the interrupt mask, only XOP and RTWP change X, only LWPI, BLWP, XOP and
RTWP change `wp`, only BLWP and XOP set `inhibit`, only IDLE halts (R21, R133, R314, R340). X itself changes none of
them; the instruction it executes is one of the others. -/
def Obligations.who_writes_what : Prop :=
  ∀ (i : Instr) (s t : State), exec i s = .next t →
    (i ≠ .limi → (∀ x n, i ≠ .liim x n) → i ≠ .rset → i ≠ .rtwp → t.maskLevel = s.maskLevel) ∧
      ((∀ n o, i ≠ .xop n o) → i ≠ .rtwp → t.flag .x = s.flag .x) ∧
      (i ≠ .lwpi → (∀ o, i ≠ .blwp o) → (∀ n o, i ≠ .xop n o) → i ≠ .rtwp → t.wp = s.wp) ∧
      ((∀ o, i ≠ .blwp o) → (∀ n o, i ≠ .xop n o) → t.inhibit = s.inhibit) ∧
      (i ≠ .idle → t.halted = s.halted)

/-! ## Context switches, interrupts, RESET, LOAD, Halt and Hold -/

/-- The forward context switch (R300): the new `wp` from the vector as it stands before the stores; `st`, `pc` and the
old `wp` into the new R15, R14 and R13; the new `pc` from the vector as it stands after the stores. `st` is as it was.
That bit 0 of the new `wp` and `pc` is dropped is the spec's own decision: log entry 12. -/
def Obligations.context_switch : Prop :=
  ∀ (v : Word) (s : State), s.during = [] →
    let t := contextSwitch v none s
    (s.holdsWord v = true → t.wp = even (s.peekWord v)) ∧
      (∃ m1 m2 : State, m1.cfg = s.cfg ∧ m2.cfg = s.cfg ∧ WordStored s m1 (t.wp + 30) s.st ∧
        WordStored m1 m2 (t.wp + 28) s.pc ∧ WordStored m2 t (t.wp + 26) s.wp) ∧
      (s.holdsWord (v + 2) = true → t.pc = even (t.peekWord (v + 2))) ∧ t.st = s.st ∧ Kept s t

/-- A forward context switch into a workspace whose R13, R14 and R15 are read/write memory, followed by RTWP, restores
`wp`, `pc` and `st` (R225, R300). -/
def Obligations.switch_and_return : Prop :=
  ∀ (v : Word) (s : State), s.Inv → s.during = [] →
    let t := contextSwitch v none s
    t.keepsWord (t.wp + 26) = true → t.keepsWord (t.wp + 28) = true → t.keepsWord (t.wp + 30) = true →
      ∃ u, exec .rtwp t = .next u ∧ u.wp = s.wp ∧ u.pc = s.pc ∧ u.st = s.st ∧ MemKept t u ∧ Kept s u

/-- RTWP (R225): `st`, `pc` and `wp` from R15, R14 and R13 of the old workspace; memory is unchanged. The dropped bits
of `st`, `pc` and `wp` are the spec's own decisions: log entries 12, 14. -/
def Obligations.rtwp_result : Prop :=
  ∀ s : State, s.during = [] → ∃ t, exec .rtwp s = .next t ∧
    (s.holdsWord (regAddr s 15) = true →
      t.st = s.peekReg 15 &&& (if s.cfg.part = .tms9940 then 0xFD03 else 0xFE0F)) ∧
    (s.holdsWord (regAddr s 14) = true → t.pc = s.peekReg 14 &&& 0xFFFE) ∧
    (s.holdsWord (regAddr s 13) = true → t.wp = s.peekReg 13 &&& 0xFFFE) ∧ MemKept s t ∧ Kept s t

/-- BLWP (R224): the context switch through the vector at its operand's effective address, with `pc` past the
instruction; the next instruction is shielded. That the vector is at the effective address is the spec's own decision
D13 (log entry 42), by C19 (log entry 44) and G13 (log entry 15); that bit 0 of the new `wp` and `pc` is dropped is
the spec's own decision too: log entry 12. -/
def Obligations.blwp_result : Prop :=
  ∀ (src : Operand) (s : State), s.during = [] →
    let e := effAddr src .word s
    ∃ t, exec (.blwp src) s = .next t ∧
      (e.2.holdsWord e.1 = true → t.wp = even (e.2.peekWord e.1)) ∧
      (∃ m1 m2 : State, m1.cfg = s.cfg ∧ m2.cfg = s.cfg ∧ WordStored e.2 m1 (t.wp + 30) s.st ∧
        WordStored m1 m2 (t.wp + 28) e.2.pc ∧ WordStored m2 t (t.wp + 26) s.wp) ∧
      (s.holdsWord (e.1 + 2) = true → t.pc = even (t.peekWord (e.1 + 2))) ∧ t.st = s.st ∧ t.inhibit = true ∧
      t.halted = s.halted ∧ t.xword = s.xword ∧ t.cfg = s.cfg ∧ t.env = s.env ∧
      t.dev.unwatched = s.dev.unwatched

/-- XOP n (R263): the context switch through vector 0x0040 + 4n, with the effective address of the operand in the new
R11; then X is set, on the TMS 9900 and TMS 9980; the mask is unchanged and the next instruction is shielded. That R11
gets the address (D13, by C19 and G13) and the order of the stores are the spec's own decisions: log entries 42, 44, 15;
the vector's place (G7): log entry 16; that bit 0 of the new `wp` and `pc` is dropped: log entry 12. -/
def Obligations.xop_result : Prop :=
  ∀ (n : BitVec 4) (src : Operand) (s : State), s.during = [] →
    let a := readOperand16 src s
    let v : Word := BitVec.ofNat 16 (0x40 + 4 * n.toNat)
    ∃ t, exec (.xop n src) s = .next t ∧
      (a.state.holdsWord v = true → t.wp = even (a.state.peekWord v)) ∧
      (∃ m0 m1 m2 : State, m0.cfg = s.cfg ∧ m1.cfg = s.cfg ∧ m2.cfg = s.cfg ∧
        WordStored a.state m0 (t.wp + 22) a.addr ∧ WordStored m0 m1 (t.wp + 30) s.st ∧
        WordStored m1 m2 (t.wp + 28) a.state.pc ∧ WordStored m2 t (t.wp + 26) s.wp) ∧
      (s.holdsWord (v + 2) = true → t.pc = even (t.peekWord (v + 2))) ∧
      t.flag .x = (if s.cfg.part = .tms9940 then s.flag .x else true) ∧ StKeptBut [.x] s t ∧ t.inhibit = true ∧
      t.halted = s.halted ∧ t.xword = s.xword ∧ t.cfg = s.cfg ∧ t.env = s.env ∧
      t.dev.unwatched = s.dev.unwatched

/-- An external interrupt (R310, R312, R313): at an instruction boundary a request of a level not greater than the
mask is taken, through the vector at 4 times the level; the old `pc`, `wp` and `st` are saved; the mask becomes the
level less one (0 for level 0), the Halt state ends, the other bits of `st` stay. A TMS 9940 that is halted takes it
while it holds, too (R378; that it does so in every Hold is the model's choice: log entry 43). The vector, the mask
for level 0, the shield and the dropped bit 0 of the new `wp` and `pc` are the spec's own decisions: log entries 16, 17,
18, 12. -/
def Obligations.interrupt_taken : Prop :=
  ∀ (n : Nat) (s : State), s.env = [] → s.during = [] → s.dev.misdriven = none →
    resetHeld s.cfg.part s.dev.pins = false → s.dev.resetDue = false →
    (s.held = true → s.cfg.part = .tms9940 ∧ s.halted = true) → s.xword = none → s.inhibit = false →
    loadReq s.cfg.part s.dev.pins = false → irq s.cfg.part s.dev = some n → n ≤ s.maskLevel →
    ∃ t, step s = .next t ∧ (s.holdsWord (BitVec.ofNat 16 (4 * n)) = true →
        t.wp = even (s.peekWord (BitVec.ofNat 16 (4 * n)))) ∧
      (∃ m1 m2 : State, m1.cfg = s.cfg ∧ m2.cfg = s.cfg ∧ WordStored s m1 (t.wp + 30) s.st ∧
        WordStored m1 m2 (t.wp + 28) s.pc ∧ WordStored m2 t (t.wp + 26) s.wp) ∧
      (s.holdsWord (BitVec.ofNat 16 (4 * n) + 2) = true → t.pc = even (t.peekWord (BitVec.ofNat 16 (4 * n) + 2))) ∧
      t.maskLevel = n - 1 ∧ (∀ k, 4 ≤ k → t.st.getLsbD k = s.st.getLsbD k) ∧ t.halted = false ∧ t.inhibit = true ∧
      t.cfg = s.cfg ∧ t.dev.unwatched = s.dev.unwatched

/-- LOAD (R325) at an instruction boundary: the context switch through 0xFFFC, before any level; the mask becomes 0,
the Halt state ends. The mask, the shield, the vector of the TMS 9980 and the dropped bit 0 of the new `wp` and `pc`
are the spec's own decisions: log entries 16 to 19, 12. -/
def Obligations.load_taken : Prop :=
  ∀ s : State, s.env = [] → s.during = [] → s.dev.misdriven = none → resetHeld s.cfg.part s.dev.pins = false →
    s.dev.resetDue = false → s.held = false → s.xword = none → s.inhibit = false →
    loadReq s.cfg.part s.dev.pins = true →
    ∃ t, step s = .next t ∧ s.cfg.part ≠ .tms9940 ∧ (s.holdsWord 0xFFFC = true → t.wp = even (s.peekWord 0xFFFC)) ∧
      (∃ m1 m2 : State, m1.cfg = s.cfg ∧ m2.cfg = s.cfg ∧ WordStored s m1 (t.wp + 30) s.st ∧
        WordStored m1 m2 (t.wp + 28) s.pc ∧ WordStored m2 t (t.wp + 26) s.wp) ∧
      (s.holdsWord 0xFFFE = true → t.pc = even (t.peekWord 0xFFFE)) ∧
      t.maskLevel = 0 ∧ (∀ k, 4 ≤ k → t.st.getLsbD k = s.st.getLsbD k) ∧ t.halted = false ∧ t.inhibit = true ∧
      t.cfg = s.cfg ∧ t.dev.unwatched = s.dev.unwatched

/-- RESET (R320, R372): once the line is released, and on a TMS 9900 or TMS 9980 HOLD is high, the step is the reset
sequence, whatever `inhibit`, the mask and a pending LOAD or level are: the vector at 0, the old `st`, `pc` and `wp`
saved (on the TMS 9940 they are 0 first), the mask 0, the Halt state ended, the configuration bits of the TMS 9940 0.
The flags, when the parameter does not keep them, are 0. The flags (D7), the shield, the mask (D18) and the priority
are the spec's own decisions: log entries 4, 17, 18, 19; so is that the direction bits of the TMS 9940 become 0 (D32):
log entry 29. Bit 0 of the new `wp` and `pc` is dropped: log entry 12. That the sequence waits for HOLD, and on the TMS
9940 not for HLD, is the model's choice: log entry 19. -/
def Obligations.reset_taken : Prop :=
  ∀ s : State, s.env = [] → s.during = [] → s.dev.misdriven = none → resetHeld s.cfg.part s.dev.pins = false →
    s.dev.resetDue = true → s.busGranted = false →
    let z : Bool := s.cfg.part == .tms9940
    ∃ t, step s = .next t ∧ (s.holdsWord 0 = true → t.wp = even (s.peekWord 0)) ∧
      (∃ m1 m2 : State, m1.cfg = s.cfg ∧ m2.cfg = s.cfg ∧
        WordStored s m1 (t.wp + 30) (if z then 0 else s.st) ∧
        WordStored m1 m2 (t.wp + 28) (if z then 0 else s.pc) ∧
        WordStored m2 t (t.wp + 26) (if z then 0 else s.wp)) ∧
      (s.holdsWord 2 = true → t.pc = even (t.peekWord 2)) ∧
      t.maskLevel = 0 ∧ (s.cfg.keepResetFlags = false → ∀ k, 4 ≤ k → t.st.getLsbD k = false) ∧
      (s.cfg.keepResetFlags = true → z = false → ∀ k, 4 ≤ k → t.st.getLsbD k = s.st.getLsbD k) ∧
      t.halted = false ∧ t.inhibit = true ∧ t.xword = none ∧ t.dev.resetDue = false ∧ t.cfg = s.cfg ∧
      (z = true → t.dev.chip.cb = 0 ∧ t.dev.chip.dir = 0)

/-- `inhibit` shields one instruction (R314): whatever requests there are, the step fetches and executes, and the bit is
clear when the instruction starts. That LOAD is held off too, and what else sets the bit, are the spec's own decisions:
log entry 17. -/
def Obligations.inhibit_shields_one_instruction : Prop :=
  ∀ s : State, s.env = [] → resetHeld s.cfg.part s.dev.pins = false → s.dev.resetDue = false → s.held = false →
    s.xword = none → s.inhibit = true → s.halted = false →
    step s = settle (execute (fetch (s.setInhibit false)).1 (fetch (s.setInhibit false)).2) ∧
      (fetch (s.setInhibit false)).2.inhibit = false

/-- While RESET is low, while a TMS 9900 or TMS 9980 holds, a RESET that is due or not, while a TMS 9940 holds, and
while the CPU is halted with no LOAD and no level the mask admits, a step changes nothing, but that `inhibit` ends in
the Halt state (R310, R320, R331, R340). Not so for a TMS 9940 in a Hold with a RESET sequence that is due, which
starts (`reset_taken`), or halted with a level the mask admits, which is taken (R378, `interrupt_taken`). The order of
HOLD and RESET and interrupts in such a Hold are the model's choice, and that a masked request does not end the Halt
state is the spec's own decision: log entries 19, 43, 20. -/
def Obligations.nothing_happens : Prop :=
  ∀ s : State, s.env = [] → s.dev.misdriven = none →
    (resetHeld s.cfg.part s.dev.pins = true → step s = .next s) ∧
      (resetHeld s.cfg.part s.dev.pins = false → s.held = true → s.cfg.part ≠ .tms9940 → step s = .next s) ∧
      (resetHeld s.cfg.part s.dev.pins = false → s.held = true → s.cfg.part = .tms9940 → s.dev.resetDue = false →
        (s.halted = false ∨ s.inhibit = true ∨ ∀ n, irq s.cfg.part s.dev = some n → s.maskLevel < n) →
        step s = .next s) ∧
      (resetHeld s.cfg.part s.dev.pins = false → s.dev.resetDue = false → s.held = false → s.xword = none →
        s.halted = true → (s.inhibit = true ∨ (loadReq s.cfg.part s.dev.pins = false ∧
          ∀ n, irq s.cfg.part s.dev = some n → s.maskLevel < n)) → step s = .next { s with inhibit := false })

/-! ## Arithmetic -/

/-- A, S, and AI: the sum, the difference of the destination and the source, and the sum with the immediate word; L>, A>
and EQ of the result; C is the carry out, for S no borrow; OV where the signed result does not fit; AC on the TMS 9940
is the half carry, where the instruction is one of AC_WRITERS, which AI by default is not (D20: log entry 26). The flags
rest on passages the spec supplies (R35, R37, R170): log entry 15. -/
def Obligations.add_and_subtract_words : Prop :=
  ∀ (w : Reg) (src dst : Operand) (s : State), s.during = [] →
    let a := readOperand16 src s
    let d := readOperand16 dst a.state
    let imm := fetch s
    let r := readReg w imm.2
    (∃ t, exec (.a src dst) s = .next t ∧ WordStored d.state t d.addr (a.value + d.value) ∧
      LaeOf t (a.value + d.value) ∧ t.flag .c = decide (65536 ≤ a.value.toNat + d.value.toNat) ∧
      t.flag .ov = decide ((a.value + d.value).toInt ≠ a.value.toInt + d.value.toInt) ∧
      (s.cfg.part = .tms9940 → ArithOp.a ∈ s.cfg.acWriters →
        t.flag .ac = decide (4096 ≤ a.value.toNat % 4096 + d.value.toNat % 4096)) ∧
      Frame (arithFlagList s.cfg.part [.l, .a, .eq, .c, .ov]) d.state t) ∧
    (∃ t, exec (.s src dst) s = .next t ∧ WordStored d.state t d.addr (d.value - a.value) ∧
      LaeOf t (d.value - a.value) ∧ t.flag .c = decide (a.value.toNat ≤ d.value.toNat) ∧
      t.flag .ov = decide ((d.value - a.value).toInt ≠ d.value.toInt - a.value.toInt) ∧
      (s.cfg.part = .tms9940 → ArithOp.s ∈ s.cfg.acWriters →
        t.flag .ac = decide (a.value.toNat % 4096 ≤ d.value.toNat % 4096)) ∧
      Frame (arithFlagList s.cfg.part [.l, .a, .eq, .c, .ov]) d.state t) ∧
    (∃ t, exec (.ai w) s = .next t ∧ WordStored r.2 t (regAddr s w) (r.1 + imm.1) ∧
      LaeOf t (r.1 + imm.1) ∧ t.flag .c = decide (65536 ≤ r.1.toNat + imm.1.toNat) ∧
      t.flag .ov = decide ((r.1 + imm.1).toInt ≠ r.1.toInt + imm.1.toInt) ∧
      (s.cfg.part = .tms9940 → ArithOp.ai ∈ s.cfg.acWriters →
        t.flag .ac = decide (4096 ≤ r.1.toNat % 4096 + imm.1.toNat % 4096)) ∧
      Frame (arithFlagList s.cfg.part [.l, .a, .eq, .c, .ov]) r.2 t)

/-- AB and SB: as A and S on the bytes at the effective addresses, with OP of the result; no other byte changes. AC
where they are AC_WRITERS, as by default they are. Log entries 15, 26. -/
def Obligations.add_and_subtract_bytes : Prop :=
  ∀ (src dst : Operand) (s : State), s.during = [] →
    let a := readOperand8 src s
    let d := readOperand8 dst a.state
    (∃ t, exec (.ab src dst) s = .next t ∧ ByteStored d.state t d.addr (a.value + d.value) ∧
      LaeOf t (a.value + d.value) ∧ t.flag .c = decide (256 ≤ a.value.toNat + d.value.toNat) ∧
      t.flag .ov = decide ((a.value + d.value).toInt ≠ a.value.toInt + d.value.toInt) ∧
      ParityOf t (a.value + d.value) ∧
      (s.cfg.part = .tms9940 → ArithOp.ab ∈ s.cfg.acWriters →
        t.flag .ac = decide (16 ≤ a.value.toNat % 16 + d.value.toNat % 16)) ∧
      Frame (arithFlagList s.cfg.part [.l, .a, .eq, .c, .ov, .op]) d.state t) ∧
    (∃ t, exec (.sb src dst) s = .next t ∧ ByteStored d.state t d.addr (d.value - a.value) ∧
      LaeOf t (d.value - a.value) ∧ t.flag .c = decide (a.value.toNat ≤ d.value.toNat) ∧
      t.flag .ov = decide ((d.value - a.value).toInt ≠ d.value.toInt - a.value.toInt) ∧
      ParityOf t (d.value - a.value) ∧
      (s.cfg.part = .tms9940 → ArithOp.sb ∈ s.cfg.acWriters →
        t.flag .ac = decide (a.value.toNat % 16 ≤ d.value.toNat % 16)) ∧
      Frame (arithFlagList s.cfg.part [.l, .a, .eq, .c, .ov, .op]) d.state t)

/-- C, CB and CI compare and write no memory: the source with the destination, the register with the immediate word; CB
gives the parity of the source byte. The order of comparison rests on R36's supplied passage: log entry 15. -/
def Obligations.compare_results : Prop :=
  ∀ (w : Reg) (src dst : Operand) (s : State), s.during = [] →
    let a := readOperand16 src s
    let d := readOperand16 dst a.state
    let a8 := readOperand8 src s
    let d8 := readOperand8 dst a8.state
    let imm := fetch s
    let r := readReg w imm.2
    (∃ t, exec (.c src dst) s = .next t ∧ CmpOf t a.value d.value ∧ MemKept d.state t ∧
      Frame [.l, .a, .eq] d.state t) ∧
    (∃ t, exec (.cb src dst) s = .next t ∧ CmpOf t a8.value d8.value ∧ ParityOf t a8.value ∧ MemKept d8.state t ∧
      Frame [.l, .a, .eq, .op] d8.state t) ∧
    (∃ t, exec (.ci w) s = .next t ∧ CmpOf t r.1 imm.1 ∧ MemKept r.2 t ∧ Frame [.l, .a, .eq] r.2 t)

/-- INC, INCT, DEC, DECT and NEG: the result at the operand, with L>, A>, EQ, C and OV; AC on the TMS 9940 is the half
carry, where the instruction is one of AC_WRITERS, which by default none of these is. DEC's C is 1 unless the operand
is 0, DECT's unless it is 0 or 1, NEG's only for 0. Log entries 15, 26. -/
def Obligations.count_and_negate : Prop :=
  ∀ (dst : Operand) (s : State), s.during = [] →
    let d := readOperand16 dst s
    let ac (op : ArithOp) : Prop := s.cfg.part = .tms9940 ∧ op ∈ s.cfg.acWriters
    let fs := arithFlagList s.cfg.part [.l, .a, .eq, .c, .ov]
    (∃ t, exec (.inc dst) s = .next t ∧ WordStored d.state t d.addr (d.value + 1) ∧ LaeOf t (d.value + 1) ∧
      t.flag .c = decide (d.value = 0xFFFF) ∧ t.flag .ov = decide (d.value = 0x7FFF) ∧
      (ac .inc → t.flag .ac = decide (d.value.toNat % 4096 = 4095)) ∧ Frame fs d.state t) ∧
    (∃ t, exec (.inct dst) s = .next t ∧ WordStored d.state t d.addr (d.value + 2) ∧ LaeOf t (d.value + 2) ∧
      t.flag .c = decide (d.value = 0xFFFE ∨ d.value = 0xFFFF) ∧
      t.flag .ov = decide (d.value = 0x7FFE ∨ d.value = 0x7FFF) ∧
      (ac .inct → t.flag .ac = decide (4094 ≤ d.value.toNat % 4096)) ∧ Frame fs d.state t) ∧
    (∃ t, exec (.dec dst) s = .next t ∧ WordStored d.state t d.addr (d.value - 1) ∧ LaeOf t (d.value - 1) ∧
      t.flag .c = decide (d.value ≠ 0) ∧ t.flag .ov = decide (d.value = 0x8000) ∧
      (ac .dec → t.flag .ac = decide (d.value.toNat % 4096 ≠ 0)) ∧ Frame fs d.state t) ∧
    (∃ t, exec (.dect dst) s = .next t ∧ WordStored d.state t d.addr (d.value - 2) ∧ LaeOf t (d.value - 2) ∧
      t.flag .c = decide (d.value ≠ 0 ∧ d.value ≠ 1) ∧
      t.flag .ov = decide (d.value = 0x8000 ∨ d.value = 0x8001) ∧
      (ac .dect → t.flag .ac = decide (2 ≤ d.value.toNat % 4096)) ∧ Frame fs d.state t) ∧
    (∃ t, exec (.neg dst) s = .next t ∧ WordStored d.state t d.addr (-d.value) ∧ LaeOf t (-d.value) ∧
      t.flag .c = decide (d.value = 0) ∧ t.flag .ov = decide (d.value = 0x8000) ∧
      (ac .neg → t.flag .ac = decide (d.value.toNat % 4096 = 0)) ∧ Frame fs d.state t)

/-- ABS (R188): a negative operand is replaced by its twos complement, any other is not written; L>, A> and EQ are the
operand's, OV is 1 only for 0x8000, C is 0. The flags rest on a supplied passage: log entry 15. -/
def Obligations.abs_result : Prop :=
  ∀ (dst : Operand) (s : State), s.during = [] →
    let d := readOperand16 dst s
    ∃ t, exec (.abs dst) s = .next t ∧ (d.value.toInt < 0 → WordStored d.state t d.addr (-d.value)) ∧
      (0 ≤ d.value.toInt → MemKept d.state t) ∧ LaeOf t d.value ∧ t.flag .ov = decide (d.value = 0x8000) ∧
      t.flag .c = false ∧ Frame [.l, .a, .eq, .c, .ov] d.state t

/-- MPY (R176): the 32-bit unsigned product, its high word in register w and its low word in the word after it, which
for R15 is the word after the workspace; no flag. Unsigned operands and R15's second word: log entries 15, 42. -/
def Obligations.mpy_result : Prop :=
  ∀ (w : Reg) (src : Operand) (s : State), s.during = [] →
    let a := readOperand16 src s
    let d := readReg w a.state
    ∃ (hi lo : Word) (m t : State), exec (.mpy w src) s = .next t ∧
      hi.toNat * 65536 + lo.toNat = a.value.toNat * d.1.toNat ∧ m.cfg = s.cfg ∧
      WordStored d.2 m (s.wp + 2 * w.setWidth 16) hi ∧ WordStored m t (s.wp + 2 * w.setWidth 16 + 2) lo ∧
      Frame [] d.2 t

/-- DIV (R177): where the divisor is not greater than the high word, OV is 1 and nothing else changes; else OV is 0, the
quotient is in register w and the remainder in the word after it. Log entries 15, 42. -/
def Obligations.div_result : Prop :=
  ∀ (w : Reg) (src : Operand) (s : State), s.during = [] →
    let a := readOperand16 src s
    let hi := readReg w a.state
    let lo := readWord (s.wp + 2 * w.setWidth 16 + 2) hi.2
    ∃ t, exec (.div w src) s = .next t ∧
      (a.value.toNat ≤ hi.1.toNat → t.flag .ov = true ∧ MemKept hi.2 t ∧ Frame [.ov] hi.2 t) ∧
      (hi.1.toNat < a.value.toNat → t.flag .ov = false ∧ Frame [.ov] lo.2 t ∧
        ∃ (q r : Word) (m : State), q.toNat * a.value.toNat + r.toNat = hi.1.toNat * 65536 + lo.1.toNat ∧
          r.toNat < a.value.toNat ∧ m.cfg = s.cfg ∧ WordStored lo.2 m (s.wp + 2 * w.setWidth 16) q ∧
          WordStored m t (s.wp + 2 * w.setWidth 16 + 2) r)

/-- AB then DCA, and SB then DCS, on two bytes of two decimal digits each, give the decimal sum and difference and the
decimal carry (no borrow), by the default functions and with the half carry of R170. The defaults are the spec's own
decision D21: log entry 27. -/
def Obligations.decimal_adjust : Prop :=
  ∀ p q : Byte, p.toNat % 16 ≤ 9 → p.toNat / 16 ≤ 9 → q.toNat % 16 ≤ 9 → q.toNat / 16 ≤ 9 →
    let value (b : Byte) : Nat := b.toNat / 16 * 10 + b.toNat % 16
    let sum := dcaDefault (addResult p q false) (addCarry p q false) (halfCarry p q false)
    let diff := dcsDefault (addResult q (~~~p) true) (addCarry q (~~~p) true) (halfCarry q (~~~p) true)
    (sum.1.toNat % 16 ≤ 9 ∧ sum.1.toNat / 16 ≤ 9 ∧ value sum.1 = (value p + value q) % 100 ∧
      sum.2 = decide (100 ≤ value p + value q)) ∧
    (diff.1.toNat % 16 ≤ 9 ∧ diff.1.toNat / 16 ≤ 9 ∧ value diff.1 = (value q + 100 - value p) % 100 ∧
      diff.2 = decide (value p ≤ value q))

/-- DCA and DCS put the byte that DCA_FN and DCS_FN give for the operand, C and AC at the operand, and the carry they
give in C; L>, A>, EQ and OP are the result's, OV and AC are not written (R280, R281). The functions are parameters;
where no value of them is given, DCA adds 6 to a digit that carried or exceeds 9, and DCS subtracts 6 from a digit
that borrowed and keeps C. The defaults and the flags are the spec's own decision D21: log entry 27. -/
def Obligations.dca_and_dcs : Prop :=
  ∀ (dst : Operand) (s : State), s.during = [] →
    let d := readOperand8 dst s
    let up : Nat := (if s.flag .ac = true ∨ 9 < d.value.toNat % 16 then 6 else 0) +
      (if s.flag .c = true ∨ 0x99 < d.value.toNat then 0x60 else 0)
    let down : Nat := (if s.flag .ac = true then 0 else 6) + (if s.flag .c = true then 0 else 0x60)
    (∃ (r : Byte) (c : Bool) (t : State), exec (.dca dst) s = .next t ∧
      (r, c) = dcaFn s.cfg d.value (s.flag .c) (s.flag .ac) ∧
      (s.cfg.dcaRows = [] → r.toNat = (d.value.toNat + up) % 256 ∧
        c = decide (s.flag .c = true ∨ 0x99 < d.value.toNat)) ∧
      (∀ row rest, s.cfg.dcaRows = row :: rest → row.byte = d.value → row.c = s.flag .c → row.ac = s.flag .ac →
        r = row.result ∧ c = row.carry) ∧
      ByteStored d.state t d.addr r ∧ LaeOf t r ∧ ParityOf t r ∧ t.flag .c = c ∧
      Frame [.l, .a, .eq, .c, .op] d.state t) ∧
    (∃ (r : Byte) (c : Bool) (t : State), exec (.dcs dst) s = .next t ∧
      (r, c) = dcsFn s.cfg d.value (s.flag .c) (s.flag .ac) ∧
      (s.cfg.dcsRows = [] → r.toNat = (d.value.toNat + 256 - down) % 256 ∧ c = s.flag .c) ∧
      (∀ row rest, s.cfg.dcsRows = row :: rest → row.byte = d.value → row.c = s.flag .c → row.ac = s.flag .ac →
        r = row.result ∧ c = row.carry) ∧
      ByteStored d.state t d.addr r ∧ LaeOf t r ∧ ParityOf t r ∧ t.flag .c = c ∧
      Frame [.l, .a, .eq, .c, .op] d.state t)

/-! ## Moves, logic, shifts -/

/-- MOV, SOC and SZC: the destination becomes the source, its union with the source, itself without the source's bits;
INV complements; L>, A> and EQ of the result (R35: log entry 15). -/
def Obligations.move_and_logic_words : Prop :=
  ∀ (src dst : Operand) (s : State), s.during = [] →
    let a := readOperand16 src s
    let d := readOperand16 dst a.state
    let o := readOperand16 dst s
    (∃ t, exec (.mov src dst) s = .next t ∧ WordStored d.state t d.addr a.value ∧ LaeOf t a.value ∧
      Frame [.l, .a, .eq] d.state t) ∧
    (∃ t, exec (.soc src dst) s = .next t ∧ WordStored d.state t d.addr (d.value ||| a.value) ∧
      LaeOf t (d.value ||| a.value) ∧ Frame [.l, .a, .eq] d.state t) ∧
    (∃ t, exec (.szc src dst) s = .next t ∧ WordStored d.state t d.addr (d.value &&& ~~~a.value) ∧
      LaeOf t (d.value &&& ~~~a.value) ∧ Frame [.l, .a, .eq] d.state t) ∧
    (∃ t, exec (.inv dst) s = .next t ∧ WordStored o.state t o.addr (~~~o.value) ∧ LaeOf t (~~~o.value) ∧
      Frame [.l, .a, .eq] o.state t)

/-- MOVB, SOCB and SZCB: the same on bytes, with OP of the result; no other byte changes (R35, R38: log entry 15). -/
def Obligations.move_and_logic_bytes : Prop :=
  ∀ (src dst : Operand) (s : State), s.during = [] →
    let a := readOperand8 src s
    let d := readOperand8 dst a.state
    (∃ t, exec (.movb src dst) s = .next t ∧ ByteStored d.state t d.addr a.value ∧ LaeOf t a.value ∧
      ParityOf t a.value ∧ Frame [.l, .a, .eq, .op] d.state t) ∧
    (∃ t, exec (.socb src dst) s = .next t ∧ ByteStored d.state t d.addr (d.value ||| a.value) ∧
      LaeOf t (d.value ||| a.value) ∧ ParityOf t (d.value ||| a.value) ∧ Frame [.l, .a, .eq, .op] d.state t) ∧
    (∃ t, exec (.szcb src dst) s = .next t ∧ ByteStored d.state t d.addr (d.value &&& ~~~a.value) ∧
      LaeOf t (d.value &&& ~~~a.value) ∧ ParityOf t (d.value &&& ~~~a.value) ∧ Frame [.l, .a, .eq, .op] d.state t)

/-- LI, ANDI, ORI and XOR write a workspace register, with L>, A> and EQ of the result (R35: log entry 15). -/
def Obligations.register_logic : Prop :=
  ∀ (w : Reg) (src : Operand) (s : State), s.during = [] →
    let imm := fetch s
    let r := readReg w imm.2
    let a := readOperand16 src s
    let x := readReg w a.state
    (∃ t, exec (.li w) s = .next t ∧ WordStored imm.2 t (regAddr s w) imm.1 ∧ LaeOf t imm.1 ∧
      Frame [.l, .a, .eq] imm.2 t) ∧
    (∃ t, exec (.andi w) s = .next t ∧ WordStored r.2 t (regAddr s w) (r.1 &&& imm.1) ∧ LaeOf t (r.1 &&& imm.1) ∧
      Frame [.l, .a, .eq] r.2 t) ∧
    (∃ t, exec (.ori w) s = .next t ∧ WordStored r.2 t (regAddr s w) (r.1 ||| imm.1) ∧ LaeOf t (r.1 ||| imm.1) ∧
      Frame [.l, .a, .eq] r.2 t) ∧
    (∃ t, exec (.xor w src) s = .next t ∧ WordStored x.2 t (regAddr s w) (a.value ^^^ x.1) ∧
      LaeOf t (a.value ^^^ x.1) ∧ Frame [.l, .a, .eq] x.2 t)

/-- COC and CZC (R195, R196): EQ is 1 exactly when every 1 bit of the source is 1, or 0, in the register; nothing else
is written. That CZC tests the 1 bits of the source is the winner of C26 against D1's prose: log entry 44. -/
def Obligations.mask_tests : Prop :=
  ∀ (w : Reg) (src : Operand) (s : State), s.during = [] →
    let a := readOperand16 src s
    let d := readReg w a.state
    (∃ t, exec (.coc w src) s = .next t ∧
      (t.flag .eq = true ↔ ∀ k, a.value.getLsbD k = true → d.1.getLsbD k = true) ∧ MemKept d.2 t ∧
      Frame [.eq] d.2 t) ∧
    (∃ t, exec (.czc w src) s = .next t ∧
      (t.flag .eq = true ↔ ∀ k, a.value.getLsbD k = true → d.1.getLsbD k = false) ∧ MemKept d.2 t ∧
      Frame [.eq] d.2 t)

/-- CLR, SETO and SWPB write their operand, and no flag (R184, R185, R189). -/
def Obligations.clear_set_swap : Prop :=
  ∀ (dst : Operand) (s : State), s.during = [] →
    let d := readOperand16 dst s
    (∃ t, exec (.clr dst) s = .next t ∧ WordStored d.state t d.addr 0x0000 ∧ Frame [] d.state t) ∧
      (∃ t, exec (.seto dst) s = .next t ∧ WordStored d.state t d.addr 0xFFFF ∧ Frame [] d.state t) ∧
      (∃ (r : Word) (t : State), exec (.swpb dst) s = .next t ∧
        r.toNat = d.value.toNat % 256 * 256 + d.value.toNat / 256 ∧ WordStored d.state t d.addr r ∧
        Frame [] d.state t) ∧
      encode (.clr dst) &&& 0xFFC0 = 0x04C0 ∧ encode (.seto dst) &&& 0xFFC0 = 0x0700 ∧
      encode (.swpb dst) &&& 0xFFC0 = 0x06C0

/-- The shift count (R250): the field, or where it is 0 the four low bits of R0, or where they are 0 too 16; that R0 is
read only where the field is 0 is the spec's own inference. -/
def Obligations.shift_count : Prop :=
  ∀ (cnt : BitVec 4) (s : State), s.during = [] →
    (cnt ≠ 0 → shiftCount cnt s = (cnt.toNat, s)) ∧
      (cnt = 0 → s.holdsWord s.wp = true →
        (shiftCount cnt s).1 = if (s.peekWord s.wp).toNat % 16 = 0 then 16 else (s.peekWord s.wp).toNat % 16) ∧
      1 ≤ (shiftCount cnt s).1 ∧ (shiftCount cnt s).1 ≤ 16 ∧ MemKept s (shiftCount cnt s).2 ∧
      Frame [] s (shiftCount cnt s).2

/-- The shifts (R251 to R254): SLA multiplies by 2^n, C is the last bit out, OV is 1 where the signed product does not
fit; SRA divides the signed register, SRL the unsigned one, SRC moves the low n bits to the top; C is bit n - 1. What
is shifted in and the flags rest on supplied passages: log entry 15. -/
def Obligations.shift_results : Prop :=
  ∀ (cnt : BitVec 4) (w : Reg) (s : State), s.during = [] →
    let d := readReg w s
    let c := shiftCount cnt d.2
    let n := c.1
    (∃ (r : Word) (t : State), exec (.sla cnt w) s = .next t ∧ r.toNat = d.1.toNat * 2 ^ n % 65536 ∧
      WordStored c.2 t (regAddr s w) r ∧ t.flag .c = decide (d.1.toNat * 2 ^ n / 65536 % 2 = 1) ∧
      t.flag .ov = decide (r.toInt ≠ d.1.toInt * 2 ^ n) ∧ LaeOf t r ∧ Frame [.l, .a, .eq, .c, .ov] c.2 t) ∧
    (∃ (r : Word) (t : State), exec (.sra cnt w) s = .next t ∧ r.toInt = d.1.toInt / 2 ^ n ∧
      WordStored c.2 t (regAddr s w) r ∧ t.flag .c = d.1.getLsbD (n - 1) ∧ LaeOf t r ∧
      Frame [.l, .a, .eq, .c] c.2 t) ∧
    (∃ (r : Word) (t : State), exec (.srl cnt w) s = .next t ∧ r.toNat = d.1.toNat / 2 ^ n ∧
      WordStored c.2 t (regAddr s w) r ∧ t.flag .c = d.1.getLsbD (n - 1) ∧ LaeOf t r ∧
      Frame [.l, .a, .eq, .c] c.2 t) ∧
    (∃ (r : Word) (t : State), exec (.src cnt w) s = .next t ∧
      r.toNat = d.1.toNat / 2 ^ (n % 16) + d.1.toNat % 2 ^ (n % 16) * 2 ^ (16 - n % 16) ∧
      WordStored c.2 t (regAddr s w) r ∧ t.flag .c = d.1.getLsbD (n - 1) ∧ LaeOf t r ∧
      Frame [.l, .a, .eq, .c] c.2 t)

/-! ## Jumps and branches -/

/-- The twelve conditional jumps (R231 to R242): each condition, with the words that encode it. A jump that is taken
goes DISP words from the next one: that the displacement counts words is the spec's own decision, log entry 42. -/
def Obligations.conditional_jumps : Prop :=
  JumpsWhen .jeq (fun s => s.flag .eq = true) ∧ JumpsWhen .jne (fun s => s.flag .eq = false) ∧
    JumpsWhen .jgt (fun s => s.flag .a = true) ∧ JumpsWhen .jlt (fun s => s.flag .a = false ∧ s.flag .eq = false) ∧
    JumpsWhen .jhe (fun s => s.flag .l = true ∨ s.flag .eq = true) ∧
    JumpsWhen .jh (fun s => s.flag .l = true ∧ s.flag .eq = false) ∧
    JumpsWhen .jl (fun s => s.flag .l = false ∧ s.flag .eq = false) ∧
    JumpsWhen .jle (fun s => s.flag .eq = true ∨ s.flag .l = false) ∧
    JumpsWhen .jnc (fun s => s.flag .c = false) ∧ JumpsWhen .jno (fun s => s.flag .ov = false) ∧
    JumpsWhen .joc (fun s => s.flag .c = true) ∧ JumpsWhen .jop (fun s => s.flag .op = true) ∧
    ∀ d : BitVec 8, encode (.jeq d) = 0x13#8 ++ d ∧ encode (.jne d) = 0x16#8 ++ d ∧ encode (.jgt d) = 0x15#8 ++ d ∧
      encode (.jlt d) = 0x11#8 ++ d ∧ encode (.jhe d) = 0x14#8 ++ d ∧ encode (.jh d) = 0x1B#8 ++ d ∧
      encode (.jl d) = 0x1A#8 ++ d ∧ encode (.jle d) = 0x12#8 ++ d ∧ encode (.jnc d) = 0x17#8 ++ d ∧
      encode (.jno d) = 0x19#8 ++ d ∧ encode (.joc d) = 0x18#8 ++ d ∧ encode (.jop d) = 0x1C#8 ++ d

/-- JMP (R222), B (R221) and BL (R223): JMP goes DISP words from the next word; B and BL go to the effective address,
its bit 0 dropped; BL stores the address of the next instruction in R11 after the address is computed. That the
displacement counts words, that the address is the effective one, and that its bit 0 is dropped (D2) are the spec's
own decisions: log entries 42, 12. -/
def Obligations.branch_results : Prop :=
  JumpsWhen .jmp (fun _ => True) ∧
    ∀ (src : Operand) (s : State), s.during = [] →
      let a := readOperand16 src s
      (∃ t, exec (.b src) s = .next t ∧ t.pc = even a.addr ∧ MemKept a.state t ∧ t.st = s.st ∧ t.wp = s.wp ∧
        Kept s t) ∧
      (∃ t, exec (.bl src) s = .next t ∧ t.pc = even a.addr ∧
        WordStored a.state t (s.wp + 22) a.state.pc ∧ t.st = s.st ∧ t.wp = s.wp ∧ Kept s t)

/-! ## Status, mask, external codes -/

/-- STST and STWP store `st` and `wp` in a register (R260, R261). -/
def Obligations.store_status_and_workspace : Prop :=
  ∀ (w : Reg) (s : State), s.during = [] →
    (∃ t, exec (.stst w) s = .next t ∧ WordStored s t (s.wp + 2 * w.setWidth 16) s.st ∧ Frame [] s t) ∧
      (∃ t, exec (.stwp w) s = .next t ∧ WordStored s t (s.wp + 2 * w.setWidth 16) s.wp ∧ Frame [] s t) ∧
      encode (.stst w) &&& 0xFFF0 = 0x02C0 ∧ encode (.stwp w) &&& 0xFFF0 = 0x02A0

/-- LWPI loads `wp` (R211), LIMI the mask (R262), each from its immediate word: the TMS 9940 has two bits of the mask.
The even `wp` and the TMS 9940's LIMI are the spec's own decisions: log entries 12, 24. -/
def Obligations.load_workspace_and_mask : Prop :=
  ∀ s : State, s.during = [] →
    let imm := fetch s
    (∃ t, exec .lwpi s = .next t ∧ t.wp = imm.1 &&& 0xFFFE ∧ MemKept s t ∧ t.st = s.st ∧ t.pc = imm.2.pc ∧ Kept s t) ∧
      (∃ t, exec .limi s = .next t ∧
        t.maskLevel = (if s.cfg.part = .tms9940 then imm.1.toNat % 4 else imm.1.toNat % 16) ∧
        (∀ k, (if s.cfg.part = .tms9940 then 2 else 4) ≤ k → t.st.getLsbD k = s.st.getLsbD k) ∧ MemKept s t ∧
        t.wp = s.wp ∧ t.pc = imm.2.pc ∧ Kept s t)

/-- LIIM (R282): on the TMS 9940 its two bits become the mask, whatever bits 6 to 2 of the word are; no other bit of
`st` and no memory changes. -/
def Obligations.liim_result : Prop :=
  ∀ (x : BitVec 5) (n : BitVec 2) (s : State), s.cfg.part = .tms9940 →
    decode .tms9940 (0b001011001#9 ++ x ++ n) = .ok (.liim x n) ∧
      ∃ t, exec (.liim x n) s = .next t ∧ t = { s with st := t.st } ∧ t.st.extractLsb' 0 2 = n ∧ t.maskLevel = n.toNat ∧
        ∀ k, 2 ≤ k → t.st.getLsbD k = s.st.getLsbD k

/-- RSET, CKOF, CKON and LREX put their code on the address lines, 011, 110, 101 and 111; RSET clears the mask, the
others change nothing in the CPU; the TMS 9940 does not have them (R272 to R276). What the system does on a code is
the parameter EXT_CTL: by default nothing, else what the parameter's row for the code says, in the cycle and before
the steps that follow, so that a system can make LREX pull LOAD low (D28; how the model holds the parameter: log entry
45). Which of 0x03A0 and 0x03C0 is CKON (C4), and the code 011 of RSET (C13): log entry 44. That the four words are
undefined on the TMS 9940 is the spec's own decision D22: log entries 23, 24. -/
def Obligations.external_instructions : Prop :=
  ∀ s : State, s.during = [] →
    (∃ t, exec .rset s = .next t ∧ ExtCycle 0b011 (s.setMask 0) t ∧ t.maskLevel = 0 ∧
      (∀ k, 4 ≤ k → t.st.getLsbD k = s.st.getLsbD k) ∧ t.pc = s.pc ∧ t.wp = s.wp ∧ t.halted = s.halted) ∧
    (∃ t, exec .ckof s = .next t ∧ ExtCycle 0b110 s t ∧ t.st = s.st ∧ t.halted = s.halted) ∧
    (∃ t, exec .ckon s = .next t ∧ ExtCycle 0b101 s t ∧ t.st = s.st ∧ t.halted = s.halted) ∧
    (∃ t, exec .lrex s = .next t ∧ ExtCycle 0b111 s t ∧ t.st = s.st ∧ t.halted = s.halted ∧
      ∀ r rest, s.cfg.extCtl = r :: rest → r.code = 0b111 → r.now = [.loadLine true] → t.dev.pins.load = true) ∧
    encode .rset = 0x0360 ∧ encode .ckof = 0x03C0 ∧ encode .ckon = 0x03A0 ∧ encode .lrex = 0x03E0 ∧
    ∀ w : Word, (w = 0x0360 ∨ w = 0x03C0 ∨ w = 0x03A0 ∨ w = 0x03E0) →
      decode .tms9940 w = .error (.undefinedOpcode w)

/-- IDLE puts code 010 on the address lines and halts the CPU, with `pc` at the next instruction (R271); the system does
what EXT_CTL says on the code, by default nothing (R276, D28: log entry 45). -/
def Obligations.idle_result : Prop :=
  ∀ s : State, s.during = [] →
    ∃ t, exec .idle s = .next t ∧ ExtCycle 0b010 s t ∧ t.halted = true ∧ t.st = s.st

/-! ## The CRU and the devices -/

/-- LDCR (R141): after the source operand and R12 are read, its bits go to the CRU from the base up; L>, A> and EQ of
the whole operand, OP for 1 to 8 bits; no memory changes and no CPU condition. The flags and the byte form rest on
supplied passages: log entries 15, 42. -/
def Obligations.ldcr_result : Prop :=
  ∀ (cnt : BitVec 4) (src : Operand) (s : State), s.during = [] →
    let n := if cnt = 0 then 16 else cnt.toNat
    let b := readOperand8 src s
    let rb := readReg 12 b.state
    let v := readOperand16 src s
    let rv := readReg 12 v.state
    ∃ t, exec (.ldcr cnt src) s = .next t ∧ KeptCpu s t ∧ t.wp = s.wp ∧
      (n ≤ 8 → LaeOf t b.value ∧ ParityOf t b.value ∧ MemKept b.state t ∧ t.pc = b.state.pc ∧
        StKeptBut [.l, .a, .eq, .op] s t ∧
        t.dev = (cruSend (cruBase s.cfg.part rb.1) n (b.value.setWidth 16) rb.2).dev) ∧
      (8 < n → LaeOf t v.value ∧ MemKept v.state t ∧ t.pc = v.state.pc ∧ StKeptBut [.l, .a, .eq] s t ∧
        t.dev = (cruSend (cruBase s.cfg.part rv.1) n v.value rv.2).dev)

/-- The bits of a transfer go out and come in in ascending order, bit k at address base + k modulo the CRU's size, on
the external lines of a TMS 9900 or TMS 9980 (R82, R84, R141, R142); a bit that comes in is the level a device or a
held line drives, where no TMS 9901 is there (R83); a bit that goes out changes the devices as their output functions
say, and where no device decodes its address it changes nothing. A CRU cycle that a batch of outside events comes
before is the cycle after those events, so that a transfer can see each bit at another time (U13; log entry 48). The
wrap is the spec's own decision: log entry 28. -/
def Obligations.cru_transfers : Prop :=
  ∀ (base n : Nat) (v : Word) (s : State), s.during = [] →
    (n ≤ 16 → s.cfg.part ≠ .tms9940 →
      let size := if s.cfg.part = .tms9900 then 4096 else 2048
      (cruSend base n v s).dev.log =
          ((List.range n).map fun k => BusEvent.cruOut ((base + k) % size) (v.getLsbD k)).reverse ++ s.dev.log ∧
        (cruReceive base n s).2.dev.log =
          ((List.range n).map fun k => BusEvent.cruIn ((base + k) % size)).reverse ++ s.dev.log ∧
        ∀ k level, k < n → s.dev.psi = [] → s.dev.cruLevel ((base + k) % size) = some level →
          (cruReceive base n s).1.getLsbD k = level) ∧
    (∀ (a : Nat) (b : Bool), s.cfg.part ≠ .tms9940 →
      (cruOut a b s).dev.cruDevices = s.dev.cruDevices.map (fun d => d.take a b) ∧
        ((∀ p ∈ s.dev.psi, a / 32 ≠ p.slot) → (∀ d ∈ s.dev.cruDevices, ∀ q ∈ d.ports, q.addr ≠ a) →
          (cruOut a b s).dev.unwatched = s.dev.unwatched)) ∧
    ∀ (a : Nat) (b : Bool) batch later, let u := batch.foldl applyMid s
      cruIn a (s.setDuring (batch :: later)) = ((cruIn a u).1, (cruIn a u).2.setDuring later) ∧
        cruOut a b (s.setDuring (batch :: later)) = (cruOut a b u).setDuring later

/-- STCR (R142): after the destination and R12 are read, n bits come in from the base up, the bits above are 0, and the
byte or word is stored; L>, A>, EQ of it, OP for 1 to 8 bits. Log entries 15, 42. -/
def Obligations.stcr_result : Prop :=
  ∀ (cnt : BitVec 4) (dst : Operand) (s : State), s.during = [] →
    let n := if cnt = 0 then 16 else cnt.toNat
    let b := readOperand8 dst s
    let rb := readReg 12 b.state
    let ib := cruReceive (cruBase s.cfg.part rb.1) n rb.2
    let w := readOperand16 dst s
    let rr := readReg 12 w.state
    let iw := cruReceive (cruBase s.cfg.part rr.1) n rr.2
    ∃ t, exec (.stcr cnt dst) s = .next t ∧ KeptCpu s t ∧ t.wp = s.wp ∧
      (n ≤ 8 → ByteStored b.state t b.addr (ib.1.setWidth 8) ∧ ib.1.toNat < 2 ^ n ∧
        LaeOf t (ib.1.setWidth 8) ∧ ParityOf t (ib.1.setWidth 8) ∧ t.pc = b.state.pc ∧
        StKeptBut [.l, .a, .eq, .op] s t ∧ t.dev.unwatched = ib.2.dev.unwatched) ∧
      (8 < n → WordStored w.state t w.addr iw.1 ∧ iw.1.toNat < 2 ^ n ∧ LaeOf t iw.1 ∧ t.pc = w.state.pc ∧
        StKeptBut [.l, .a, .eq] s t ∧ t.dev.unwatched = iw.2.dev.unwatched)

/-- SBO, SBZ and TB (R143 to R145): one bit at the base plus the signed displacement, modulo the CRU's size (D17: log
entry 28); SBO and SBZ write it, TB reads it into EQ (C3: log entry 44); nothing else changes in the CPU, and no
memory. -/
def Obligations.single_bit_instructions : Prop :=
  ∀ (disp : BitVec 8) (s : State), s.during = [] →
    let r := readReg 12 s
    let size : Nat := match s.cfg.part with
      | .tms9900 => 4096
      | .tms9980 => 2048
      | .tms9940 => 512
    let a : Nat := (((r.1.toNat / 2 % size : Nat) : Int) + disp.toInt).emod (size : Int) |>.toNat
    (∃ t, exec (.sbo disp) s = .next t ∧ t.dev = (cruOut a true r.2).dev ∧ MemKept s t ∧ t.pc = s.pc ∧ t.wp = s.wp ∧
      t.st = s.st ∧ KeptCpu s t) ∧
    (∃ t, exec (.sbz disp) s = .next t ∧ t.dev = (cruOut a false r.2).dev ∧ MemKept s t ∧ t.pc = s.pc ∧ t.wp = s.wp ∧
      t.st = s.st ∧ KeptCpu s t) ∧
    (∃ t, exec (.tb disp) s = .next t ∧ t.dev = (cruIn a r.2).2.dev ∧ t.flag .eq = (cruIn a r.2).1 ∧ MemKept s t ∧
      t.pc = s.pc ∧ t.wp = s.wp ∧ StKeptBut [.eq] s t ∧ KeptCpu s t)

/-- The general purpose flags of the TMS 9940 (R379): each of the sixteen addresses reads back the last bit written to
it, and a write to one changes no other. -/
def Obligations.general_purpose_flags : Prop :=
  ∀ (k : Nat) (b : Bool) (s : State), k < 16 → s.cfg.part = .tms9940 → s.during = [] →
    (cruIn (0x1B0 + k) (cruOut (0x1B0 + k) b s)).1 = b ∧
      ∀ j, j < 16 → j ≠ k → (cruIn (0x1B0 + j) (cruOut (0x1B0 + k) b s)).1 = (cruIn (0x1B0 + j) s).1

/-- A pin of the TMS 9940 that is in no special function (R374, R375): a write sets its latch; a read of an output pin
gives the latch, of an input pin the level external logic drives. What a read of an output pin gives, and that a write
to an input pin's address writes the latch, are the spec's own decisions: log entry 29. -/
def Obligations.chip_pins : Prop :=
  ∀ (k : Nat) (b : Bool) (s : State), k < 32 → s.cfg.part = .tms9940 → s.during = [] → s.dev.chip.special k = false →
    (k = 17 → s.dev.chip.counting = false) →
    (cruIn (0x1E0 + k) (cruOut (0x1C0 + k) true (cruOut (0x1E0 + k) b s))).1 = b ∧
      (cruIn (0x1E0 + k) (cruOut (0x1C0 + k) false (cruOut (0x1E0 + k) b s))).1 = s.dev.pins.p.getLsbD k

/-- The decrementer (R376): with a buffer that is 0 a tick does nothing; else the counter goes down by one, and
reaching 0 it is reloaded from the buffer and requests its interrupt, so that a buffer value N requests once in N
ticks. A read of one of its bits gives the counter as it stands after the outside events that come before that bit's
cycle, so that a transfer of several bits can be torn by a tick (U13; when ticks come: log entry 48). -/
def Obligations.decrementer : Prop :=
  (∀ c : OnChip,
    (c.decbuf = 0 → c.decTick = c) ∧
      (c.decbuf ≠ 0 → c.dec = 1 → c.decTick = { c with dec := c.decbuf, decint := true }) ∧
      (c.decbuf ≠ 0 → c.dec ≠ 1 → c.decTick = { c with dec := c.dec - 1 }) ∧
      (∀ n : Nat, c.decbuf ≠ 0 → c.decint = false → c.dec = c.decbuf → n < c.decbuf.toNat →
        (Nat.iterate OnChip.decTick n c).decint = false ∧
          (Nat.iterate OnChip.decTick (c.decbuf.toNat) c).decint = true)) ∧
  ∀ (k : Nat) (s : State) (batch : List MidEvent) (later : List (List MidEvent)), k < 14 → s.cfg.part = .tms9940 →
    s.during = batch :: later →
    (cruIn (0x190 + k) s).1 = (batch.foldl applyMid s).dev.chip.dec.getLsbD k ∧
      (applyMid s (.dev .oscTick)).dev.chip = (if s.dev.chip.timer = true then s.dev.chip.decTick else s.dev.chip)

/-- The TMS 9901's clock (R394, R395): a tick counts down; reaching 0 it reloads, and requests where the load buffer
is not 0; the read buffer follows only outside clock mode; a write to mask bit 3 clears the request; leaving clock
mode, by the select bit or by S0, copies the counter to the read buffer; a bit written to the load buffer reloads the
counter. The load buffer of 0 and that reload are the spec's own decisions: log entry 30. -/
def Obligations.psi_clock : Prop :=
  ∀ (p : Psi) (v : Bool),
    (p.clkctr ≠ 1 → p.tick.clkctr = p.clkctr - 1 ∧ p.tick.clkint = p.clkint) ∧
      (p.clkctr = 1 → p.tick.clkctr = p.clkload ∧ p.tick.clkint = (p.clkint || decide (p.clkload ≠ 0))) ∧
      (p.clockMode = true → p.tick.clkread = p.clkread) ∧
      (p.clockMode = false → p.tick.clkread = p.tick.clkctr) ∧
      (p.sel = false → (p.writeBit 3 v).clkint = false ∧ (p.writeBit 3 v).mask.getLsbD 3 = v) ∧
      (p.clockMode = true → (p.writeBit 0 false).clkread = p.clkctr ∧ (p.seeS0 true).clkread = p.clkctr) ∧
      (∀ k, 1 ≤ k → k ≤ 14 → p.sel = true →
        (p.writeBit k v).clkload.getLsbD (k - 1) = v ∧ (p.writeBit k v).clkctr = (p.writeBit k v).clkload)

/-- The TMS 9901's request (R392): the lowest level whose request is present and enabled, none where there is none; a
request is a low pin, or for level 3 the clock's. Its reset (R396): a CRU write of 0 to its bit 15 in clock mode, and
RST1, clear the mask bits and put every I/O bit in input mode, so that it requests nothing and its pins read what
external logic drives; a 1 resets nothing, and outside clock mode the write is to mask bit 15. Clock mode is the
select bit at 1 (C10: log entry 44), S0 being 0 in a cycle of bit 15. -/
def Obligations.psi_interrupt_and_reset : Prop :=
  (∀ p : Psi,
    (∀ n : BitVec 4, p.irq = some n ↔
      (n ≠ 0 ∧ p.mask.getLsbD n.toNat = true ∧ (p.pinInt n.toNat = false ∨ (n = 3 ∧ p.clkint = true)) ∧
        ∀ k, 1 ≤ k → k < n.toNat →
          p.mask.getLsbD k = false ∨ (p.pinInt k = true ∧ (k ≠ 3 ∨ p.clkint = false)))) ∧
    ∀ k, 7 ≤ k → k ≤ 15 → p.pinInt k = p.pinP (22 - k)) ∧
  ∀ (u : Nat) (p : Psi) (v : Bool) (s : State), s.during = [] → s.cfg.part ≠ .tms9940 → s.dev.psi[u]? = some p →
    let wasReset (q : Psi) : Prop := q.mask = 0 ∧ q.om = 0 ∧ q.irq = none ∧ q.slot = p.slot ∧ q.intIn = p.intIn ∧
      ∀ k, q.pinP k = p.pIn.getLsbD k
    (p.sel = true → ∃ q, (cruOut (32 * p.slot + 15) false s).dev.psi[u]? = some q ∧ wasReset q) ∧
      (∃ q, (applyDev (.psiReset u) s).dev.psi[u]? = some q ∧ wasReset q) ∧
      (p.sel = true → ∃ q, (cruOut (32 * p.slot + 15) true s).dev.psi[u]? = some q ∧ q.mask = p.mask ∧ q.om = p.om ∧
        q.ol = p.ol ∧ q.sel = true ∧ q.clkload = p.clkload ∧ q.clkctr = p.clkctr) ∧
      (p.sel = false → ∃ q, (cruOut (32 * p.slot + 15) v s).dev.psi[u]? = some q ∧ q.om = p.om ∧ q.ol = p.ol ∧
        q.sel = false ∧ ∀ k, q.mask.getLsbD k = if k = 15 then v else p.mask.getLsbD k)
end

