-- ==== Sys2Proof/Laws/State.lean ====
section
/-! SUPPORT. One lemma for each field under each update of State, so that no proof unfolds a record update. -/

namespace Sys2Proof.Machine

variable (s : State)

@[simp] theorem State.setPc_cfg (v : Word) : (s.setPc v).cfg = s.cfg := rfl
@[simp] theorem State.setPc_pc (v : Word) : (s.setPc v).pc = even v := rfl
@[simp] theorem State.setPc_wp (v : Word) : (s.setPc v).wp = s.wp := rfl
@[simp] theorem State.setPc_st (v : Word) : (s.setPc v).st = s.st := rfl
@[simp] theorem State.setPc_halted (v : Word) : (s.setPc v).halted = s.halted := rfl
@[simp] theorem State.setPc_inhibit (v : Word) : (s.setPc v).inhibit = s.inhibit := rfl
@[simp] theorem State.setPc_xword (v : Word) : (s.setPc v).xword = s.xword := rfl
@[simp] theorem State.setPc_mem (v : Word) : (s.setPc v).mem = s.mem := rfl
@[simp] theorem State.setPc_dev (v : Word) : (s.setPc v).dev = s.dev := rfl
@[simp] theorem State.setPc_free (v : Word) : (s.setPc v).free = s.free := rfl
@[simp] theorem State.setPc_env (v : Word) : (s.setPc v).env = s.env := rfl
@[simp] theorem State.setPc_during (v : Word) : (s.setPc v).during = s.during := rfl

@[simp] theorem State.setWp_cfg (v : Word) : (s.setWp v).cfg = s.cfg := rfl
@[simp] theorem State.setWp_pc (v : Word) : (s.setWp v).pc = s.pc := rfl
@[simp] theorem State.setWp_wp (v : Word) : (s.setWp v).wp = even v := rfl
@[simp] theorem State.setWp_st (v : Word) : (s.setWp v).st = s.st := rfl
@[simp] theorem State.setWp_halted (v : Word) : (s.setWp v).halted = s.halted := rfl
@[simp] theorem State.setWp_inhibit (v : Word) : (s.setWp v).inhibit = s.inhibit := rfl
@[simp] theorem State.setWp_xword (v : Word) : (s.setWp v).xword = s.xword := rfl
@[simp] theorem State.setWp_mem (v : Word) : (s.setWp v).mem = s.mem := rfl
@[simp] theorem State.setWp_dev (v : Word) : (s.setWp v).dev = s.dev := rfl
@[simp] theorem State.setWp_free (v : Word) : (s.setWp v).free = s.free := rfl
@[simp] theorem State.setWp_env (v : Word) : (s.setWp v).env = s.env := rfl
@[simp] theorem State.setWp_during (v : Word) : (s.setWp v).during = s.during := rfl

@[simp] theorem State.setSt_cfg (v : Word) : (s.setSt v).cfg = s.cfg := rfl
@[simp] theorem State.setSt_pc (v : Word) : (s.setSt v).pc = s.pc := rfl
@[simp] theorem State.setSt_wp (v : Word) : (s.setSt v).wp = s.wp := rfl
@[simp] theorem State.setSt_st (v : Word) : (s.setSt v).st = v := rfl
@[simp] theorem State.setSt_halted (v : Word) : (s.setSt v).halted = s.halted := rfl
@[simp] theorem State.setSt_inhibit (v : Word) : (s.setSt v).inhibit = s.inhibit := rfl
@[simp] theorem State.setSt_xword (v : Word) : (s.setSt v).xword = s.xword := rfl
@[simp] theorem State.setSt_mem (v : Word) : (s.setSt v).mem = s.mem := rfl
@[simp] theorem State.setSt_dev (v : Word) : (s.setSt v).dev = s.dev := rfl
@[simp] theorem State.setSt_free (v : Word) : (s.setSt v).free = s.free := rfl
@[simp] theorem State.setSt_env (v : Word) : (s.setSt v).env = s.env := rfl
@[simp] theorem State.setSt_during (v : Word) : (s.setSt v).during = s.during := rfl

@[simp] theorem State.setHalted_cfg (b : Bool) : (s.setHalted b).cfg = s.cfg := rfl
@[simp] theorem State.setHalted_pc (b : Bool) : (s.setHalted b).pc = s.pc := rfl
@[simp] theorem State.setHalted_wp (b : Bool) : (s.setHalted b).wp = s.wp := rfl
@[simp] theorem State.setHalted_st (b : Bool) : (s.setHalted b).st = s.st := rfl
@[simp] theorem State.setHalted_halted (b : Bool) : (s.setHalted b).halted = b := rfl
@[simp] theorem State.setHalted_inhibit (b : Bool) : (s.setHalted b).inhibit = s.inhibit := rfl
@[simp] theorem State.setHalted_xword (b : Bool) : (s.setHalted b).xword = s.xword := rfl
@[simp] theorem State.setHalted_mem (b : Bool) : (s.setHalted b).mem = s.mem := rfl
@[simp] theorem State.setHalted_dev (b : Bool) : (s.setHalted b).dev = s.dev := rfl
@[simp] theorem State.setHalted_free (b : Bool) : (s.setHalted b).free = s.free := rfl
@[simp] theorem State.setHalted_env (b : Bool) : (s.setHalted b).env = s.env := rfl
@[simp] theorem State.setHalted_during (b : Bool) : (s.setHalted b).during = s.during := rfl

@[simp] theorem State.setInhibit_cfg (b : Bool) : (s.setInhibit b).cfg = s.cfg := rfl
@[simp] theorem State.setInhibit_pc (b : Bool) : (s.setInhibit b).pc = s.pc := rfl
@[simp] theorem State.setInhibit_wp (b : Bool) : (s.setInhibit b).wp = s.wp := rfl
@[simp] theorem State.setInhibit_st (b : Bool) : (s.setInhibit b).st = s.st := rfl
@[simp] theorem State.setInhibit_halted (b : Bool) : (s.setInhibit b).halted = s.halted := rfl
@[simp] theorem State.setInhibit_inhibit (b : Bool) : (s.setInhibit b).inhibit = b := rfl
@[simp] theorem State.setInhibit_xword (b : Bool) : (s.setInhibit b).xword = s.xword := rfl
@[simp] theorem State.setInhibit_mem (b : Bool) : (s.setInhibit b).mem = s.mem := rfl
@[simp] theorem State.setInhibit_dev (b : Bool) : (s.setInhibit b).dev = s.dev := rfl
@[simp] theorem State.setInhibit_free (b : Bool) : (s.setInhibit b).free = s.free := rfl
@[simp] theorem State.setInhibit_env (b : Bool) : (s.setInhibit b).env = s.env := rfl
@[simp] theorem State.setInhibit_during (b : Bool) : (s.setInhibit b).during = s.during := rfl

@[simp] theorem State.setXword_cfg (w : Option Word) : (s.setXword w).cfg = s.cfg := rfl
@[simp] theorem State.setXword_pc (w : Option Word) : (s.setXword w).pc = s.pc := rfl
@[simp] theorem State.setXword_wp (w : Option Word) : (s.setXword w).wp = s.wp := rfl
@[simp] theorem State.setXword_st (w : Option Word) : (s.setXword w).st = s.st := rfl
@[simp] theorem State.setXword_halted (w : Option Word) : (s.setXword w).halted = s.halted := rfl
@[simp] theorem State.setXword_inhibit (w : Option Word) : (s.setXword w).inhibit = s.inhibit := rfl
@[simp] theorem State.setXword_xword (w : Option Word) : (s.setXword w).xword = w := rfl
@[simp] theorem State.setXword_mem (w : Option Word) : (s.setXword w).mem = s.mem := rfl
@[simp] theorem State.setXword_dev (w : Option Word) : (s.setXword w).dev = s.dev := rfl
@[simp] theorem State.setXword_free (w : Option Word) : (s.setXword w).free = s.free := rfl
@[simp] theorem State.setXword_env (w : Option Word) : (s.setXword w).env = s.env := rfl
@[simp] theorem State.setXword_during (w : Option Word) : (s.setXword w).during = s.during := rfl

@[simp] theorem State.setMem_cfg (m : Memory) : (s.setMem m).cfg = s.cfg := rfl
@[simp] theorem State.setMem_pc (m : Memory) : (s.setMem m).pc = s.pc := rfl
@[simp] theorem State.setMem_wp (m : Memory) : (s.setMem m).wp = s.wp := rfl
@[simp] theorem State.setMem_st (m : Memory) : (s.setMem m).st = s.st := rfl
@[simp] theorem State.setMem_halted (m : Memory) : (s.setMem m).halted = s.halted := rfl
@[simp] theorem State.setMem_inhibit (m : Memory) : (s.setMem m).inhibit = s.inhibit := rfl
@[simp] theorem State.setMem_xword (m : Memory) : (s.setMem m).xword = s.xword := rfl
@[simp] theorem State.setMem_mem (m : Memory) : (s.setMem m).mem = m := rfl
@[simp] theorem State.setMem_dev (m : Memory) : (s.setMem m).dev = s.dev := rfl
@[simp] theorem State.setMem_free (m : Memory) : (s.setMem m).free = s.free := rfl
@[simp] theorem State.setMem_env (m : Memory) : (s.setMem m).env = s.env := rfl
@[simp] theorem State.setMem_during (m : Memory) : (s.setMem m).during = s.during := rfl

@[simp] theorem State.setDev_cfg (d : Devices) : (s.setDev d).cfg = s.cfg := rfl
@[simp] theorem State.setDev_pc (d : Devices) : (s.setDev d).pc = s.pc := rfl
@[simp] theorem State.setDev_wp (d : Devices) : (s.setDev d).wp = s.wp := rfl
@[simp] theorem State.setDev_st (d : Devices) : (s.setDev d).st = s.st := rfl
@[simp] theorem State.setDev_halted (d : Devices) : (s.setDev d).halted = s.halted := rfl
@[simp] theorem State.setDev_inhibit (d : Devices) : (s.setDev d).inhibit = s.inhibit := rfl
@[simp] theorem State.setDev_xword (d : Devices) : (s.setDev d).xword = s.xword := rfl
@[simp] theorem State.setDev_mem (d : Devices) : (s.setDev d).mem = s.mem := rfl
@[simp] theorem State.setDev_dev (d : Devices) : (s.setDev d).dev = d := rfl
@[simp] theorem State.setDev_free (d : Devices) : (s.setDev d).free = s.free := rfl
@[simp] theorem State.setDev_env (d : Devices) : (s.setDev d).env = s.env := rfl
@[simp] theorem State.setDev_during (d : Devices) : (s.setDev d).during = s.during := rfl

@[simp] theorem State.setEnv_cfg (e : List (List Event)) : (s.setEnv e).cfg = s.cfg := rfl
@[simp] theorem State.setEnv_pc (e : List (List Event)) : (s.setEnv e).pc = s.pc := rfl
@[simp] theorem State.setEnv_wp (e : List (List Event)) : (s.setEnv e).wp = s.wp := rfl
@[simp] theorem State.setEnv_st (e : List (List Event)) : (s.setEnv e).st = s.st := rfl
@[simp] theorem State.setEnv_halted (e : List (List Event)) : (s.setEnv e).halted = s.halted := rfl
@[simp] theorem State.setEnv_inhibit (e : List (List Event)) : (s.setEnv e).inhibit = s.inhibit := rfl
@[simp] theorem State.setEnv_xword (e : List (List Event)) : (s.setEnv e).xword = s.xword := rfl
@[simp] theorem State.setEnv_mem (e : List (List Event)) : (s.setEnv e).mem = s.mem := rfl
@[simp] theorem State.setEnv_dev (e : List (List Event)) : (s.setEnv e).dev = s.dev := rfl
@[simp] theorem State.setEnv_free (e : List (List Event)) : (s.setEnv e).free = s.free := rfl
@[simp] theorem State.setEnv_env (e : List (List Event)) : (s.setEnv e).env = e := rfl
@[simp] theorem State.setEnv_during (e : List (List Event)) : (s.setEnv e).during = s.during := rfl

@[simp] theorem State.setDuring_cfg (m : List (List MidEvent)) : (s.setDuring m).cfg = s.cfg := rfl
@[simp] theorem State.setDuring_pc (m : List (List MidEvent)) : (s.setDuring m).pc = s.pc := rfl
@[simp] theorem State.setDuring_wp (m : List (List MidEvent)) : (s.setDuring m).wp = s.wp := rfl
@[simp] theorem State.setDuring_st (m : List (List MidEvent)) : (s.setDuring m).st = s.st := rfl
@[simp] theorem State.setDuring_halted (m : List (List MidEvent)) : (s.setDuring m).halted = s.halted := rfl
@[simp] theorem State.setDuring_inhibit (m : List (List MidEvent)) : (s.setDuring m).inhibit = s.inhibit := rfl
@[simp] theorem State.setDuring_xword (m : List (List MidEvent)) : (s.setDuring m).xword = s.xword := rfl
@[simp] theorem State.setDuring_mem (m : List (List MidEvent)) : (s.setDuring m).mem = s.mem := rfl
@[simp] theorem State.setDuring_dev (m : List (List MidEvent)) : (s.setDuring m).dev = s.dev := rfl
@[simp] theorem State.setDuring_free (m : List (List MidEvent)) : (s.setDuring m).free = s.free := rfl
@[simp] theorem State.setDuring_env (m : List (List MidEvent)) : (s.setDuring m).env = s.env := rfl
@[simp] theorem State.setDuring_during (m : List (List MidEvent)) : (s.setDuring m).during = m := rfl

@[simp] theorem State.useFree_cfg (n : Nat) : (s.useFree n).cfg = s.cfg := rfl
@[simp] theorem State.useFree_pc (n : Nat) : (s.useFree n).pc = s.pc := rfl
@[simp] theorem State.useFree_wp (n : Nat) : (s.useFree n).wp = s.wp := rfl
@[simp] theorem State.useFree_st (n : Nat) : (s.useFree n).st = s.st := rfl
@[simp] theorem State.useFree_halted (n : Nat) : (s.useFree n).halted = s.halted := rfl
@[simp] theorem State.useFree_inhibit (n : Nat) : (s.useFree n).inhibit = s.inhibit := rfl
@[simp] theorem State.useFree_xword (n : Nat) : (s.useFree n).xword = s.xword := rfl
@[simp] theorem State.useFree_mem (n : Nat) : (s.useFree n).mem = s.mem := rfl
@[simp] theorem State.useFree_dev (n : Nat) : (s.useFree n).dev = s.dev := rfl
@[simp] theorem State.useFree_free (n : Nat) : (s.useFree n).free = s.free + n := rfl
@[simp] theorem State.useFree_env (n : Nat) : (s.useFree n).env = s.env := rfl
@[simp] theorem State.useFree_during (n : Nat) : (s.useFree n).during = s.during := rfl

@[simp] theorem State.setPins_cfg (p : Pins) : (s.setPins p).cfg = s.cfg := rfl
@[simp] theorem State.setPins_pc (p : Pins) : (s.setPins p).pc = s.pc := rfl
@[simp] theorem State.setPins_wp (p : Pins) : (s.setPins p).wp = s.wp := rfl
@[simp] theorem State.setPins_st (p : Pins) : (s.setPins p).st = s.st := rfl
@[simp] theorem State.setPins_halted (p : Pins) : (s.setPins p).halted = s.halted := rfl
@[simp] theorem State.setPins_inhibit (p : Pins) : (s.setPins p).inhibit = s.inhibit := rfl
@[simp] theorem State.setPins_xword (p : Pins) : (s.setPins p).xword = s.xword := rfl
@[simp] theorem State.setPins_mem (p : Pins) : (s.setPins p).mem = s.mem := rfl
@[simp] theorem State.setPins_dev (p : Pins) : (s.setPins p).dev = { s.dev with pins := p } := rfl
@[simp] theorem State.setPins_free (p : Pins) : (s.setPins p).free = s.free := rfl
@[simp] theorem State.setPins_env (p : Pins) : (s.setPins p).env = s.env := rfl
@[simp] theorem State.setPins_during (p : Pins) : (s.setPins p).during = s.during := rfl

@[simp] theorem State.setChip_cfg (c : OnChip) : (s.setChip c).cfg = s.cfg := rfl
@[simp] theorem State.setChip_pc (c : OnChip) : (s.setChip c).pc = s.pc := rfl
@[simp] theorem State.setChip_wp (c : OnChip) : (s.setChip c).wp = s.wp := rfl
@[simp] theorem State.setChip_st (c : OnChip) : (s.setChip c).st = s.st := rfl
@[simp] theorem State.setChip_halted (c : OnChip) : (s.setChip c).halted = s.halted := rfl
@[simp] theorem State.setChip_inhibit (c : OnChip) : (s.setChip c).inhibit = s.inhibit := rfl
@[simp] theorem State.setChip_xword (c : OnChip) : (s.setChip c).xword = s.xword := rfl
@[simp] theorem State.setChip_mem (c : OnChip) : (s.setChip c).mem = s.mem := rfl
@[simp] theorem State.setChip_dev (c : OnChip) : (s.setChip c).dev = { s.dev with chip := c } := rfl
@[simp] theorem State.setChip_free (c : OnChip) : (s.setChip c).free = s.free := rfl
@[simp] theorem State.setChip_env (c : OnChip) : (s.setChip c).env = s.env := rfl
@[simp] theorem State.setChip_during (c : OnChip) : (s.setChip c).during = s.during := rfl

@[simp] theorem State.setPsi_cfg (p : List Psi) : (s.setPsi p).cfg = s.cfg := rfl
@[simp] theorem State.setPsi_pc (p : List Psi) : (s.setPsi p).pc = s.pc := rfl
@[simp] theorem State.setPsi_wp (p : List Psi) : (s.setPsi p).wp = s.wp := rfl
@[simp] theorem State.setPsi_st (p : List Psi) : (s.setPsi p).st = s.st := rfl
@[simp] theorem State.setPsi_halted (p : List Psi) : (s.setPsi p).halted = s.halted := rfl
@[simp] theorem State.setPsi_inhibit (p : List Psi) : (s.setPsi p).inhibit = s.inhibit := rfl
@[simp] theorem State.setPsi_xword (p : List Psi) : (s.setPsi p).xword = s.xword := rfl
@[simp] theorem State.setPsi_mem (p : List Psi) : (s.setPsi p).mem = s.mem := rfl
@[simp] theorem State.setPsi_dev (p : List Psi) : (s.setPsi p).dev = { s.dev with psi := p } := rfl
@[simp] theorem State.setPsi_free (p : List Psi) : (s.setPsi p).free = s.free := rfl
@[simp] theorem State.setPsi_env (p : List Psi) : (s.setPsi p).env = s.env := rfl
@[simp] theorem State.setPsi_during (p : List Psi) : (s.setPsi p).during = s.during := rfl

@[simp] theorem State.setResetDue_cfg (b : Bool) : (s.setResetDue b).cfg = s.cfg := rfl
@[simp] theorem State.setResetDue_pc (b : Bool) : (s.setResetDue b).pc = s.pc := rfl
@[simp] theorem State.setResetDue_wp (b : Bool) : (s.setResetDue b).wp = s.wp := rfl
@[simp] theorem State.setResetDue_st (b : Bool) : (s.setResetDue b).st = s.st := rfl
@[simp] theorem State.setResetDue_halted (b : Bool) : (s.setResetDue b).halted = s.halted := rfl
@[simp] theorem State.setResetDue_inhibit (b : Bool) : (s.setResetDue b).inhibit = s.inhibit := rfl
@[simp] theorem State.setResetDue_xword (b : Bool) : (s.setResetDue b).xword = s.xword := rfl
@[simp] theorem State.setResetDue_mem (b : Bool) : (s.setResetDue b).mem = s.mem := rfl
@[simp] theorem State.setResetDue_dev (b : Bool) : (s.setResetDue b).dev = { s.dev with resetDue := b } := rfl
@[simp] theorem State.setResetDue_free (b : Bool) : (s.setResetDue b).free = s.free := rfl
@[simp] theorem State.setResetDue_env (b : Bool) : (s.setResetDue b).env = s.env := rfl
@[simp] theorem State.setResetDue_during (b : Bool) : (s.setResetDue b).during = s.during := rfl

@[simp] theorem State.emit_cfg (e : BusEvent) : (s.emit e).cfg = s.cfg := rfl
@[simp] theorem State.emit_pc (e : BusEvent) : (s.emit e).pc = s.pc := rfl
@[simp] theorem State.emit_wp (e : BusEvent) : (s.emit e).wp = s.wp := rfl
@[simp] theorem State.emit_st (e : BusEvent) : (s.emit e).st = s.st := rfl
@[simp] theorem State.emit_halted (e : BusEvent) : (s.emit e).halted = s.halted := rfl
@[simp] theorem State.emit_inhibit (e : BusEvent) : (s.emit e).inhibit = s.inhibit := rfl
@[simp] theorem State.emit_xword (e : BusEvent) : (s.emit e).xword = s.xword := rfl
@[simp] theorem State.emit_mem (e : BusEvent) : (s.emit e).mem = s.mem := rfl
@[simp] theorem State.emit_dev (e : BusEvent) : (s.emit e).dev = { s.dev with log := e :: s.dev.log } := rfl
@[simp] theorem State.emit_free (e : BusEvent) : (s.emit e).free = s.free := rfl
@[simp] theorem State.emit_env (e : BusEvent) : (s.emit e).env = s.env := rfl
@[simp] theorem State.emit_during (e : BusEvent) : (s.emit e).during = s.during := rfl

@[simp] theorem State.setFlag_cfg (f : Flag) (b : Bool) : (s.setFlag f b).cfg = s.cfg := rfl
@[simp] theorem State.setFlag_pc (f : Flag) (b : Bool) : (s.setFlag f b).pc = s.pc := rfl
@[simp] theorem State.setFlag_wp (f : Flag) (b : Bool) : (s.setFlag f b).wp = s.wp := rfl
@[simp] theorem State.setFlag_st (f : Flag) (b : Bool) : (s.setFlag f b).st = withBit s.st (flagBit f) b := rfl
@[simp] theorem State.setFlag_halted (f : Flag) (b : Bool) : (s.setFlag f b).halted = s.halted := rfl
@[simp] theorem State.setFlag_inhibit (f : Flag) (b : Bool) : (s.setFlag f b).inhibit = s.inhibit := rfl
@[simp] theorem State.setFlag_xword (f : Flag) (b : Bool) : (s.setFlag f b).xword = s.xword := rfl
@[simp] theorem State.setFlag_mem (f : Flag) (b : Bool) : (s.setFlag f b).mem = s.mem := rfl
@[simp] theorem State.setFlag_dev (f : Flag) (b : Bool) : (s.setFlag f b).dev = s.dev := rfl
@[simp] theorem State.setFlag_free (f : Flag) (b : Bool) : (s.setFlag f b).free = s.free := rfl
@[simp] theorem State.setFlag_env (f : Flag) (b : Bool) : (s.setFlag f b).env = s.env := rfl
@[simp] theorem State.setFlag_during (f : Flag) (b : Bool) : (s.setFlag f b).during = s.during := rfl

@[simp] theorem State.seeLine_cfg (line : Bool) : (s.seeLine line).cfg = s.cfg := rfl
@[simp] theorem State.seeLine_pc (line : Bool) : (s.seeLine line).pc = s.pc := rfl
@[simp] theorem State.seeLine_wp (line : Bool) : (s.seeLine line).wp = s.wp := rfl
@[simp] theorem State.seeLine_st (line : Bool) : (s.seeLine line).st = s.st := rfl
@[simp] theorem State.seeLine_halted (line : Bool) : (s.seeLine line).halted = s.halted := rfl
@[simp] theorem State.seeLine_inhibit (line : Bool) : (s.seeLine line).inhibit = s.inhibit := rfl
@[simp] theorem State.seeLine_xword (line : Bool) : (s.seeLine line).xword = s.xword := rfl
@[simp] theorem State.seeLine_mem (line : Bool) : (s.seeLine line).mem = s.mem := rfl
@[simp] theorem State.seeLine_dev (line : Bool) : (s.seeLine line).dev =
    { s.dev with psi := s.dev.psi.map fun p => p.seeS0 line } :=
  rfl
@[simp] theorem State.seeLine_free (line : Bool) : (s.seeLine line).free = s.free := rfl
@[simp] theorem State.seeLine_env (line : Bool) : (s.seeLine line).env = s.env := rfl
@[simp] theorem State.seeLine_during (line : Bool) : (s.seeLine line).during = s.during := rfl

@[simp] theorem State.mapPsi_cfg (u : Nat) (f : Psi → Psi) : (s.mapPsi u f).cfg = s.cfg := rfl
@[simp] theorem State.mapPsi_pc (u : Nat) (f : Psi → Psi) : (s.mapPsi u f).pc = s.pc := rfl
@[simp] theorem State.mapPsi_wp (u : Nat) (f : Psi → Psi) : (s.mapPsi u f).wp = s.wp := rfl
@[simp] theorem State.mapPsi_st (u : Nat) (f : Psi → Psi) : (s.mapPsi u f).st = s.st := rfl
@[simp] theorem State.mapPsi_halted (u : Nat) (f : Psi → Psi) : (s.mapPsi u f).halted = s.halted := rfl
@[simp] theorem State.mapPsi_inhibit (u : Nat) (f : Psi → Psi) : (s.mapPsi u f).inhibit = s.inhibit := rfl
@[simp] theorem State.mapPsi_xword (u : Nat) (f : Psi → Psi) : (s.mapPsi u f).xword = s.xword := rfl
@[simp] theorem State.mapPsi_mem (u : Nat) (f : Psi → Psi) : (s.mapPsi u f).mem = s.mem := rfl
@[simp] theorem State.mapPsi_dev (u : Nat) (f : Psi → Psi) : (s.mapPsi u f).dev =
    { s.dev with psi := s.dev.psi.modify u f } :=
  rfl
@[simp] theorem State.mapPsi_free (u : Nat) (f : Psi → Psi) : (s.mapPsi u f).free = s.free := rfl
@[simp] theorem State.mapPsi_env (u : Nat) (f : Psi → Psi) : (s.mapPsi u f).env = s.env := rfl
@[simp] theorem State.mapPsi_during (u : Nat) (f : Psi → Psi) : (s.mapPsi u f).during = s.during := rfl

@[simp] theorem State.seeAddr_cfg (a : Word) : (s.seeAddr a).cfg = s.cfg := by
  unfold State.seeAddr; split <;> simp
@[simp] theorem State.seeAddr_pc (a : Word) : (s.seeAddr a).pc = s.pc := by
  unfold State.seeAddr; split <;> simp
@[simp] theorem State.seeAddr_wp (a : Word) : (s.seeAddr a).wp = s.wp := by
  unfold State.seeAddr; split <;> simp
@[simp] theorem State.seeAddr_st (a : Word) : (s.seeAddr a).st = s.st := by
  unfold State.seeAddr; split <;> simp
@[simp] theorem State.seeAddr_halted (a : Word) : (s.seeAddr a).halted = s.halted := by
  unfold State.seeAddr; split <;> simp
@[simp] theorem State.seeAddr_inhibit (a : Word) : (s.seeAddr a).inhibit = s.inhibit := by
  unfold State.seeAddr; split <;> simp
@[simp] theorem State.seeAddr_xword (a : Word) : (s.seeAddr a).xword = s.xword := by
  unfold State.seeAddr; split <;> simp
@[simp] theorem State.seeAddr_mem (a : Word) : (s.seeAddr a).mem = s.mem := by
  unfold State.seeAddr; split <;> simp
@[simp] theorem State.seeAddr_free (a : Word) : (s.seeAddr a).free = s.free := by
  unfold State.seeAddr; split <;> simp
@[simp] theorem State.seeAddr_env (a : Word) : (s.seeAddr a).env = s.env := by
  unfold State.seeAddr; split <;> simp
@[simp] theorem State.seeAddr_during (a : Word) : (s.seeAddr a).during = s.during := by
  unfold State.seeAddr; split <;> simp

@[simp] theorem State.emitAt_cfg (a : Word) (e : BusEvent) : (s.emitAt a e).cfg = s.cfg := by
  unfold State.emitAt; split <;> simp
@[simp] theorem State.emitAt_pc (a : Word) (e : BusEvent) : (s.emitAt a e).pc = s.pc := by
  unfold State.emitAt; split <;> simp
@[simp] theorem State.emitAt_wp (a : Word) (e : BusEvent) : (s.emitAt a e).wp = s.wp := by
  unfold State.emitAt; split <;> simp
@[simp] theorem State.emitAt_st (a : Word) (e : BusEvent) : (s.emitAt a e).st = s.st := by
  unfold State.emitAt; split <;> simp
@[simp] theorem State.emitAt_halted (a : Word) (e : BusEvent) : (s.emitAt a e).halted = s.halted := by
  unfold State.emitAt; split <;> simp
@[simp] theorem State.emitAt_inhibit (a : Word) (e : BusEvent) : (s.emitAt a e).inhibit = s.inhibit := by
  unfold State.emitAt; split <;> simp
@[simp] theorem State.emitAt_xword (a : Word) (e : BusEvent) : (s.emitAt a e).xword = s.xword := by
  unfold State.emitAt; split <;> simp
@[simp] theorem State.emitAt_mem (a : Word) (e : BusEvent) : (s.emitAt a e).mem = s.mem := by
  unfold State.emitAt; split <;> simp
@[simp] theorem State.emitAt_free (a : Word) (e : BusEvent) : (s.emitAt a e).free = s.free := by
  unfold State.emitAt; split <;> simp
@[simp] theorem State.emitAt_env (a : Word) (e : BusEvent) : (s.emitAt a e).env = s.env := by
  unfold State.emitAt; split <;> simp
@[simp] theorem State.emitAt_during (a : Word) (e : BusEvent) : (s.emitAt a e).during = s.during := by
  unfold State.emitAt; split <;> simp

@[simp] theorem State.setMask_cfg (v : BitVec 4) : (s.setMask v).cfg = s.cfg := by
  unfold State.setMask; split <;> rfl
@[simp] theorem State.setMask_pc (v : BitVec 4) : (s.setMask v).pc = s.pc := by
  unfold State.setMask; split <;> rfl
@[simp] theorem State.setMask_wp (v : BitVec 4) : (s.setMask v).wp = s.wp := by
  unfold State.setMask; split <;> rfl
@[simp] theorem State.setMask_halted (v : BitVec 4) : (s.setMask v).halted = s.halted := by
  unfold State.setMask; split <;> rfl
@[simp] theorem State.setMask_inhibit (v : BitVec 4) : (s.setMask v).inhibit = s.inhibit := by
  unfold State.setMask; split <;> rfl
@[simp] theorem State.setMask_xword (v : BitVec 4) : (s.setMask v).xword = s.xword := by
  unfold State.setMask; split <;> rfl
@[simp] theorem State.setMask_mem (v : BitVec 4) : (s.setMask v).mem = s.mem := by
  unfold State.setMask; split <;> rfl
@[simp] theorem State.setMask_dev (v : BitVec 4) : (s.setMask v).dev = s.dev := by
  unfold State.setMask; split <;> rfl
@[simp] theorem State.setMask_free (v : BitVec 4) : (s.setMask v).free = s.free := by
  unfold State.setMask; split <;> rfl
@[simp] theorem State.setMask_env (v : BitVec 4) : (s.setMask v).env = s.env := by
  unfold State.setMask; split <;> rfl
@[simp] theorem State.setMask_during (v : BitVec 4) : (s.setMask v).during = s.during := by
  unfold State.setMask; split <;> rfl

@[simp] theorem State.drivePsiP_cfg (u : Nat) (k : Fin 16) (l : Bool) : (s.drivePsiP u k l).cfg = s.cfg := by
  unfold State.drivePsiP; split <;> simp
@[simp] theorem State.drivePsiP_pc (u : Nat) (k : Fin 16) (l : Bool) : (s.drivePsiP u k l).pc = s.pc := by
  unfold State.drivePsiP; split <;> simp
@[simp] theorem State.drivePsiP_wp (u : Nat) (k : Fin 16) (l : Bool) : (s.drivePsiP u k l).wp = s.wp := by
  unfold State.drivePsiP; split <;> simp
@[simp] theorem State.drivePsiP_st (u : Nat) (k : Fin 16) (l : Bool) : (s.drivePsiP u k l).st = s.st := by
  unfold State.drivePsiP; split <;> simp
@[simp] theorem State.drivePsiP_halted (u : Nat) (k : Fin 16) (l : Bool) : (s.drivePsiP u k l).halted = s.halted := by
  unfold State.drivePsiP; split <;> simp
@[simp] theorem State.drivePsiP_inhibit (u : Nat) (k : Fin 16) (l : Bool) :
    (s.drivePsiP u k l).inhibit = s.inhibit := by
  unfold State.drivePsiP; split <;> simp
@[simp] theorem State.drivePsiP_xword (u : Nat) (k : Fin 16) (l : Bool) : (s.drivePsiP u k l).xword = s.xword := by
  unfold State.drivePsiP; split <;> simp
@[simp] theorem State.drivePsiP_mem (u : Nat) (k : Fin 16) (l : Bool) : (s.drivePsiP u k l).mem = s.mem := by
  unfold State.drivePsiP; split <;> simp
@[simp] theorem State.drivePsiP_free (u : Nat) (k : Fin 16) (l : Bool) : (s.drivePsiP u k l).free = s.free := by
  unfold State.drivePsiP; split <;> simp
@[simp] theorem State.drivePsiP_env (u : Nat) (k : Fin 16) (l : Bool) : (s.drivePsiP u k l).env = s.env := by
  unfold State.drivePsiP; split <;> simp
@[simp] theorem State.drivePsiP_during (u : Nat) (k : Fin 16) (l : Bool) : (s.drivePsiP u k l).during = s.during := by
  unfold State.drivePsiP; split <;> simp

end Sys2Proof.Machine
end

