-- ==== Sys2Proof/Laws/Memory.lean ====
section
/-! SUPPORT. The laws of memory: a read after a write, and the canonical form. -/

namespace Sys2Proof.Machine

theorem Memory.read_erase (m : Memory) (a k : Nat) :
    Memory.read (Memory.erase m a) k = if k = a then unlistedByte else Memory.read m k := by
  induction m with
  | nil => simp [Memory.erase, Memory.read]
  | cons c m ih =>
    obtain ⟨j, v⟩ := c
    by_cases h : j = a
    · subst h
      by_cases hk : k = j
      · subst hk; simpa [Memory.erase] using ih
      · simp [Memory.erase, Memory.read, ih, hk, Ne.symm hk]
    · by_cases hk : j = k
      · subst hk; simp [Memory.erase, Memory.read, h]
      · simp [Memory.erase, Memory.read, ih, h, hk]

theorem Memory.read_insert_other (m : Memory) (a k : Nat) (b : Byte) (h : k ≠ a) :
    Memory.read (Memory.insert m a b) k = Memory.read m k := by
  induction m with
  | nil => simp [Memory.insert, Memory.read, Ne.symm h]
  | cons c m ih =>
    obtain ⟨j, v⟩ := c
    by_cases hl : a < j
    · simp [Memory.insert, hl, Memory.read, Ne.symm h]
    · simp [Memory.insert, hl, Memory.read, ih]

theorem Memory.read_insert_same (m : Memory) (a : Nat) (b : Byte) :
    Memory.read (Memory.insert (Memory.erase m a) a b) a = b := by
  induction m with
  | nil => simp [Memory.erase, Memory.insert, Memory.read]
  | cons c m ih =>
    obtain ⟨j, v⟩ := c
    by_cases h : j = a
    · simpa [Memory.erase, h] using ih
    · by_cases hl : a < j
      · simp [Memory.erase, h, Memory.insert, hl, Memory.read]
      · simp [Memory.erase, h, Memory.insert, hl, Memory.read, ih]

/-- A read after a write: the byte written, at its address; elsewhere what was there. -/
theorem Memory.read_write (m : Memory) (a k : Nat) (b : Byte) :
    Memory.read (Memory.write m a b) k = if k = a then b else Memory.read m k := by
  unfold Memory.write
  by_cases hb : b = unlistedByte
  · simp [hb, Memory.read_erase]
  · by_cases h : k = a
    · subst h; simp [hb, Memory.read_insert_same]
    · simp [hb, h, Memory.read_insert_other, Memory.read_erase]

theorem Memory.all_erase (m : Memory) (a : Nat) (p : Host.Cell → Bool) (h : m.all p = true) :
    (Memory.erase m a).all p = true := by
  induction m with
  | nil => rfl
  | cons c m ih =>
    obtain ⟨j, v⟩ := c
    simp only [List.all_cons, Bool.and_eq_true] at h
    by_cases hj : j = a
    · simpa [Memory.erase, hj] using ih h.2
    · simp only [Memory.erase, hj, if_false, List.all_cons, Bool.and_eq_true]
      exact ⟨h.1, ih h.2⟩

theorem Memory.all_insert (m : Memory) (a : Nat) (b : Byte) (p : Host.Cell → Bool) (h : m.all p = true)
    (ha : p (a, b) = true) : (Memory.insert m a b).all p = true := by
  induction m with
  | nil => simp [Memory.insert, ha]
  | cons c m ih =>
    obtain ⟨j, v⟩ := c
    have h' := h
    simp only [List.all_cons, Bool.and_eq_true] at h'
    by_cases hl : a < j
    · simp only [Memory.insert, hl, if_true, List.all_cons, Bool.and_eq_true]
      exact ⟨ha, h'⟩
    · simp only [Memory.insert, hl, if_false, List.all_cons, Bool.and_eq_true]
      exact ⟨h'.1, ih h'.2⟩

theorem Memory.wf_erase (m : Memory) (a : Nat) (h : Memory.wf m = true) : Memory.wf (Memory.erase m a) = true := by
  induction m with
  | nil => rfl
  | cons c m ih =>
    obtain ⟨j, v⟩ := c
    simp only [Memory.wf, Bool.and_eq_true] at h
    by_cases hj : j = a
    · simpa [Memory.erase, hj] using ih h.2
    · simp only [Memory.erase, hj, if_false, Memory.wf, Bool.and_eq_true]
      exact ⟨⟨h.1.1, Memory.all_erase _ _ _ h.1.2⟩, ih h.2⟩

theorem Memory.erase_all_ne (m : Memory) (a : Nat) : (Memory.erase m a).all (fun c => c.1 != a) = true := by
  induction m with
  | nil => rfl
  | cons c m ih =>
    obtain ⟨j, v⟩ := c
    by_cases hj : j = a
    · simpa [Memory.erase, hj] using ih
    · simp only [Memory.erase, hj, if_false, List.all_cons, Bool.and_eq_true]
      exact ⟨by simpa using hj, ih⟩

theorem Memory.wf_insert (m : Memory) (a : Nat) (b : Byte) (hb : b ≠ unlistedByte) (h : Memory.wf m = true)
    (hne : m.all (fun c => c.1 != a) = true) : Memory.wf (Memory.insert m a b) = true := by
  induction m with
  | nil => simp [Memory.insert, Memory.wf, hb]
  | cons c m ih =>
    obtain ⟨j, v⟩ := c
    have hw := h
    simp only [Memory.wf, Bool.and_eq_true] at h
    simp only [List.all_cons, Bool.and_eq_true, bne_iff_ne] at hne
    by_cases hl : a < j
    · have hall : ((j, v) :: m).all (fun c => decide (a < c.1)) = true := by
        simp only [List.all_cons, Bool.and_eq_true, decide_eq_true_eq]
        refine ⟨hl, ?_⟩
        have := h.1.2
        rw [List.all_eq_true] at this ⊢
        intro c hc
        have := this c hc
        simp only [decide_eq_true_eq] at this ⊢
        omega
      simp only [Memory.insert, hl, if_true]
      rw [Memory.wf]
      simp only [Bool.and_eq_true, bne_iff_ne]
      exact ⟨⟨hb, hall⟩, hw⟩
    · simp only [Memory.insert, hl, if_false, Memory.wf, Bool.and_eq_true]
      have hj : j < a := by have := hne.1; omega
      exact ⟨⟨h.1.1, Memory.all_insert _ _ _ _ h.1.2 (by simpa using hj)⟩, ih h.2 hne.2⟩

/-- A write keeps the canonical form. -/
theorem Memory.wf_write (m : Memory) (a : Nat) (b : Byte) (h : Memory.wf m = true) :
    Memory.wf (Memory.write m a b) = true := by
  unfold Memory.write
  split
  · exact Memory.wf_erase m a h
  · exact Memory.wf_insert _ _ _ ‹_› (Memory.wf_erase m a h) (Memory.erase_all_ne m a)

/-- A write below a bound keeps every listed address below it. -/
theorem Memory.below_write (m : Memory) (a : Nat) (b : Byte) (n : Nat) (h : Memory.below m n = true) (ha : a < n) :
    Memory.below (Memory.write m a b) n = true := by
  unfold Memory.write Memory.below at *
  split
  · exact Memory.all_erase m a _ h
  · exact Memory.all_insert _ _ _ _ (Memory.all_erase m a _ h) (by simpa using ha)

/-- The memory of the state after reset is in its canonical form. -/
theorem State.reset_mem_wf : Memory.wf State.reset.mem = true := rfl

end Sys2Proof.Machine
end

