-- ==== Sys2Proof/Laws/Ops.lean ====
section
/-! SUPPORT. One lemma, or one small set, for each shared operation: everything it can do. What an operation does to
memory and to the devices is said where nothing from outside comes between its bus cycles: `s.during = []`. -/

namespace Sys2Proof.Machine

/-! ## Addresses -/

theorem even_even (a : Word) : even (even a) = even a := by
  unfold even; ext i hi; simp

theorem even_bit0 (a : Word) : (even a).getLsbD 0 = false := by
  unfold even; simp

theorem even_of_bit0 (a : Word) (h : a.getLsbD 0 = false) : even a = a := by
  unfold even
  apply BitVec.eq_of_getLsbD_eq
  intro i hi
  simp only [BitVec.getLsbD_and]
  by_cases h0 : i = 0
  · subst h0
    have h' : a[0] = false := by simpa using h
    simp [h']
  · have : (0xFFFE#16).getLsbD i = true := by
      interval_cases i <;> simp_all
    simp [this]

theorem even_toNat (a : Word) : (even a).toNat = a.toNat / 2 * 2 := by
  unfold even
  have h : ∀ x : Word, x &&& 0xFFFE#16 = (x >>> 1) <<< 1 := by
    intro x; ext i hi; simp [BitVec.getElem_shiftLeft]
    interval_cases i <;> simp
  rw [h, BitVec.toNat_shiftLeft, BitVec.toNat_ushiftRight, Nat.shiftLeft_eq, Nat.shiftRight_eq_div_pow]
  have := a.isLt
  omega

theorem even_succ_toNat (a : Word) : (even a + 1).toNat = (even a).toNat + 1 := by
  rw [BitVec.toNat_add, even_toNat]
  have := a.isLt
  simp; omega

theorem busAddr_lt (p : Part) (a : Word) : busAddr p a < busSize p := by
  have := a.isLt
  cases p <;> simp [busAddr, busSize] <;> omega

/-- The two bytes of a word are two places. -/
theorem busAddr_even_ne (p : Part) (a : Word) : busAddr p (even a) ≠ busAddr p (even a + 1) := by
  have h := even_succ_toNat a
  have h2 := even_toNat a
  cases p <;> simp only [busAddr] <;> omega

/-! ## Watching the bus -/

theorem seeLine_unwatched (s : State) (b : Bool) : (s.seeLine b).dev.unwatched = s.dev.unwatched := by
  simp only [State.seeLine_dev, Devices.unwatched, List.map_map]
  congr 1
  apply List.map_congr_left
  intro p _
  simp only [Function.comp, Psi.seeS0, Psi.leave]
  split <;> rfl

theorem seeAddr_unwatched (s : State) (a : Word) : (s.seeAddr a).dev.unwatched = s.dev.unwatched := by
  unfold State.seeAddr
  split
  · rfl
  · exact seeLine_unwatched s _

theorem emit_unwatched (s : State) (e : BusEvent) : (s.emit e).dev.unwatched = s.dev.unwatched := rfl

theorem emitAt_unwatched (s : State) (a : Word) (e : BusEvent) : (s.emitAt a e).dev.unwatched = s.dev.unwatched := by
  unfold State.emitAt; split <;> rfl

theorem peekByte_of_mem {s t : State} (hc : t.cfg = s.cfg) (hm : t.mem = s.mem) (a : Word) :
    t.peekByte a = s.peekByte a := by
  simp [State.peekByte, hc, hm]

theorem peekWord_of_mem {s t : State} (hc : t.cfg = s.cfg) (hm : t.mem = s.mem) (a : Word) :
    t.peekWord a = s.peekWord a := by
  simp [State.peekWord, peekByte_of_mem hc hm]

/-! ## Bytes -/

@[simp] theorem cellByte_cfg (a : Word) (s : State) : (cellByte a s).2.cfg = s.cfg := by
  unfold cellByte; split <;> rfl
@[simp] theorem cellByte_pc (a : Word) (s : State) : (cellByte a s).2.pc = s.pc := by
  unfold cellByte; split <;> rfl
@[simp] theorem cellByte_wp (a : Word) (s : State) : (cellByte a s).2.wp = s.wp := by
  unfold cellByte; split <;> rfl
@[simp] theorem cellByte_st (a : Word) (s : State) : (cellByte a s).2.st = s.st := by
  unfold cellByte; split <;> rfl
@[simp] theorem cellByte_halted (a : Word) (s : State) : (cellByte a s).2.halted = s.halted := by
  unfold cellByte; split <;> rfl
@[simp] theorem cellByte_inhibit (a : Word) (s : State) : (cellByte a s).2.inhibit = s.inhibit := by
  unfold cellByte; split <;> rfl
@[simp] theorem cellByte_xword (a : Word) (s : State) : (cellByte a s).2.xword = s.xword := by
  unfold cellByte; split <;> rfl
@[simp] theorem cellByte_env (a : Word) (s : State) : (cellByte a s).2.env = s.env := by
  unfold cellByte; split <;> rfl
@[simp] theorem cellByte_during (a : Word) (s : State) : (cellByte a s).2.during = s.during := by
  unfold cellByte; split <;> rfl
@[simp] theorem cellByte_mem (a : Word) (s : State) : (cellByte a s).2.mem = s.mem := by
  unfold cellByte; split <;> rfl
@[simp] theorem cellByte_dev (a : Word) (s : State) : (cellByte a s).2.dev = s.dev := by
  unfold cellByte; split <;> rfl
@[simp] theorem storeByte_cfg (a : Word) (b : Byte) (s : State) : (storeByte a b s).cfg = s.cfg := by
  unfold storeByte; split <;> rfl
@[simp] theorem storeByte_pc (a : Word) (b : Byte) (s : State) : (storeByte a b s).pc = s.pc := by
  unfold storeByte; split <;> rfl
@[simp] theorem storeByte_wp (a : Word) (b : Byte) (s : State) : (storeByte a b s).wp = s.wp := by
  unfold storeByte; split <;> rfl
@[simp] theorem storeByte_st (a : Word) (b : Byte) (s : State) : (storeByte a b s).st = s.st := by
  unfold storeByte; split <;> rfl
@[simp] theorem storeByte_halted (a : Word) (b : Byte) (s : State) : (storeByte a b s).halted = s.halted := by
  unfold storeByte; split <;> rfl
@[simp] theorem storeByte_inhibit (a : Word) (b : Byte) (s : State) : (storeByte a b s).inhibit = s.inhibit := by
  unfold storeByte; split <;> rfl
@[simp] theorem storeByte_xword (a : Word) (b : Byte) (s : State) : (storeByte a b s).xword = s.xword := by
  unfold storeByte; split <;> rfl
@[simp] theorem storeByte_env (a : Word) (b : Byte) (s : State) : (storeByte a b s).env = s.env := by
  unfold storeByte; split <;> rfl
@[simp] theorem storeByte_during (a : Word) (b : Byte) (s : State) : (storeByte a b s).during = s.during := by
  unfold storeByte; split <;> rfl
@[simp] theorem storeByte_dev (a : Word) (b : Byte) (s : State) : (storeByte a b s).dev = s.dev := by
  unfold storeByte; split <;> rfl
@[simp] theorem storeByte_free (a : Word) (b : Byte) (s : State) : (storeByte a b s).free = s.free := by
  unfold storeByte; split <;> rfl

/-- A byte reads as memory holds it, where memory holds it. -/
theorem cellByte_value (a : Word) (s : State) (h : s.holds a = true) : (cellByte a s).1 = s.peekByte a := by
  unfold cellByte State.peekByte
  unfold State.holds at h
  cases hk : kindAt s.cfg a <;> simp_all

/-- Everything a store of a byte can do to memory. -/
theorem storeByte_peek (a : Word) (v : Byte) (s : State) (b : Word) :
    (storeByte a v s).peekByte b =
      if s.keeps a = true ∧ busAddr s.cfg.part b = busAddr s.cfg.part a then v else s.peekByte b := by
  unfold storeByte State.peekByte State.keeps
  cases hk : kindAt s.cfg a <;> simp [Memory.read_write]

theorem storeByte_wf (a : Word) (v : Byte) (s : State) (h : Memory.wf s.mem = true) :
    Memory.wf (storeByte a v s).mem = true := by
  unfold storeByte; split <;> simp [h, Memory.wf_write]

theorem storeByte_below (a : Word) (v : Byte) (s : State) (h : Memory.below s.mem (busSize s.cfg.part) = true) :
    Memory.below (storeByte a v s).mem (busSize s.cfg.part) = true := by
  unfold storeByte; split <;> simp [h, Memory.below_write, busAddr_lt]

/-! ## Bus cycles -/

@[simp] theorem readCycle8_cfg (a : Word) (s : State) : (readCycle8 a s).2.cfg = s.cfg := by
  simp [readCycle8]
@[simp] theorem readCycle8_pc (a : Word) (s : State) : (readCycle8 a s).2.pc = s.pc := by
  simp [readCycle8]
@[simp] theorem readCycle8_wp (a : Word) (s : State) : (readCycle8 a s).2.wp = s.wp := by
  simp [readCycle8]
@[simp] theorem readCycle8_st (a : Word) (s : State) : (readCycle8 a s).2.st = s.st := by
  simp [readCycle8]
@[simp] theorem readCycle8_halted (a : Word) (s : State) : (readCycle8 a s).2.halted = s.halted := by
  simp [readCycle8]
@[simp] theorem readCycle8_inhibit (a : Word) (s : State) : (readCycle8 a s).2.inhibit = s.inhibit := by
  simp [readCycle8]
@[simp] theorem readCycle8_xword (a : Word) (s : State) : (readCycle8 a s).2.xword = s.xword := by
  simp [readCycle8]
@[simp] theorem readCycle8_env (a : Word) (s : State) : (readCycle8 a s).2.env = s.env := by
  simp [readCycle8]
@[simp] theorem readCycle8_during (a : Word) (s : State) : (readCycle8 a s).2.during = s.during := by
  simp [readCycle8]
@[simp] theorem readCycle8_mem (a : Word) (s : State) : (readCycle8 a s).2.mem = s.mem := by
  simp [readCycle8]
@[simp] theorem writeCycle8_cfg (a : Word) (b : Byte) (s : State) : (writeCycle8 a b s).cfg = s.cfg := by
  simp [writeCycle8]
@[simp] theorem writeCycle8_pc (a : Word) (b : Byte) (s : State) : (writeCycle8 a b s).pc = s.pc := by
  simp [writeCycle8]
@[simp] theorem writeCycle8_wp (a : Word) (b : Byte) (s : State) : (writeCycle8 a b s).wp = s.wp := by
  simp [writeCycle8]
@[simp] theorem writeCycle8_st (a : Word) (b : Byte) (s : State) : (writeCycle8 a b s).st = s.st := by
  simp [writeCycle8]
@[simp] theorem writeCycle8_halted (a : Word) (b : Byte) (s : State) : (writeCycle8 a b s).halted = s.halted := by
  simp [writeCycle8]
@[simp] theorem writeCycle8_inhibit (a : Word) (b : Byte) (s : State) : (writeCycle8 a b s).inhibit = s.inhibit := by
  simp [writeCycle8]
@[simp] theorem writeCycle8_xword (a : Word) (b : Byte) (s : State) : (writeCycle8 a b s).xword = s.xword := by
  simp [writeCycle8]
@[simp] theorem writeCycle8_env (a : Word) (b : Byte) (s : State) : (writeCycle8 a b s).env = s.env := by
  simp [writeCycle8]
@[simp] theorem writeCycle8_during (a : Word) (b : Byte) (s : State) : (writeCycle8 a b s).during = s.during := by
  simp [writeCycle8]
@[simp] theorem writeCycle8_free (a : Word) (b : Byte) (s : State) : (writeCycle8 a b s).free = s.free := by
  simp [writeCycle8]
@[simp] theorem readCycle16_cfg (a : Word) (s : State) : (readCycle16 a s).2.cfg = s.cfg := by
  simp [readCycle16]
@[simp] theorem readCycle16_pc (a : Word) (s : State) : (readCycle16 a s).2.pc = s.pc := by
  simp [readCycle16]
@[simp] theorem readCycle16_wp (a : Word) (s : State) : (readCycle16 a s).2.wp = s.wp := by
  simp [readCycle16]
@[simp] theorem readCycle16_st (a : Word) (s : State) : (readCycle16 a s).2.st = s.st := by
  simp [readCycle16]
@[simp] theorem readCycle16_halted (a : Word) (s : State) : (readCycle16 a s).2.halted = s.halted := by
  simp [readCycle16]
@[simp] theorem readCycle16_inhibit (a : Word) (s : State) : (readCycle16 a s).2.inhibit = s.inhibit := by
  simp [readCycle16]
@[simp] theorem readCycle16_xword (a : Word) (s : State) : (readCycle16 a s).2.xword = s.xword := by
  simp [readCycle16]
@[simp] theorem readCycle16_env (a : Word) (s : State) : (readCycle16 a s).2.env = s.env := by
  simp [readCycle16]
@[simp] theorem readCycle16_during (a : Word) (s : State) : (readCycle16 a s).2.during = s.during := by
  simp [readCycle16]
@[simp] theorem readCycle16_mem (a : Word) (s : State) : (readCycle16 a s).2.mem = s.mem := by
  simp [readCycle16]
@[simp] theorem writeCycle16_cfg (a v : Word) (s : State) : (writeCycle16 a v s).cfg = s.cfg := by
  simp [writeCycle16]
@[simp] theorem writeCycle16_pc (a v : Word) (s : State) : (writeCycle16 a v s).pc = s.pc := by
  simp [writeCycle16]
@[simp] theorem writeCycle16_wp (a v : Word) (s : State) : (writeCycle16 a v s).wp = s.wp := by
  simp [writeCycle16]
@[simp] theorem writeCycle16_st (a v : Word) (s : State) : (writeCycle16 a v s).st = s.st := by
  simp [writeCycle16]
@[simp] theorem writeCycle16_halted (a v : Word) (s : State) : (writeCycle16 a v s).halted = s.halted := by
  simp [writeCycle16]
@[simp] theorem writeCycle16_inhibit (a v : Word) (s : State) : (writeCycle16 a v s).inhibit = s.inhibit := by
  simp [writeCycle16]
@[simp] theorem writeCycle16_xword (a v : Word) (s : State) : (writeCycle16 a v s).xword = s.xword := by
  simp [writeCycle16]
@[simp] theorem writeCycle16_env (a v : Word) (s : State) : (writeCycle16 a v s).env = s.env := by
  simp [writeCycle16]
@[simp] theorem writeCycle16_during (a v : Word) (s : State) : (writeCycle16 a v s).during = s.during := by
  simp [writeCycle16]
@[simp] theorem writeCycle16_free (a v : Word) (s : State) : (writeCycle16 a v s).free = s.free := by
  simp [writeCycle16]
@[simp] theorem busRead_cfg (a : Word) (s : State) : (busRead a s).2.cfg = s.cfg := by
  unfold busRead; split <;> simp
@[simp] theorem busRead_pc (a : Word) (s : State) : (busRead a s).2.pc = s.pc := by
  unfold busRead; split <;> simp
@[simp] theorem busRead_wp (a : Word) (s : State) : (busRead a s).2.wp = s.wp := by
  unfold busRead; split <;> simp
@[simp] theorem busRead_st (a : Word) (s : State) : (busRead a s).2.st = s.st := by
  unfold busRead; split <;> simp
@[simp] theorem busRead_halted (a : Word) (s : State) : (busRead a s).2.halted = s.halted := by
  unfold busRead; split <;> simp
@[simp] theorem busRead_inhibit (a : Word) (s : State) : (busRead a s).2.inhibit = s.inhibit := by
  unfold busRead; split <;> simp
@[simp] theorem busRead_xword (a : Word) (s : State) : (busRead a s).2.xword = s.xword := by
  unfold busRead; split <;> simp
@[simp] theorem busRead_env (a : Word) (s : State) : (busRead a s).2.env = s.env := by
  unfold busRead; split <;> simp
@[simp] theorem busRead_during (a : Word) (s : State) : (busRead a s).2.during = s.during := by
  unfold busRead; split <;> simp
@[simp] theorem busRead_mem (a : Word) (s : State) : (busRead a s).2.mem = s.mem := by
  unfold busRead; split <;> simp
@[simp] theorem busWrite_cfg (a v : Word) (s : State) : (busWrite a v s).cfg = s.cfg := by
  unfold busWrite; split <;> simp
@[simp] theorem busWrite_pc (a v : Word) (s : State) : (busWrite a v s).pc = s.pc := by
  unfold busWrite; split <;> simp
@[simp] theorem busWrite_wp (a v : Word) (s : State) : (busWrite a v s).wp = s.wp := by
  unfold busWrite; split <;> simp
@[simp] theorem busWrite_st (a v : Word) (s : State) : (busWrite a v s).st = s.st := by
  unfold busWrite; split <;> simp
@[simp] theorem busWrite_halted (a v : Word) (s : State) : (busWrite a v s).halted = s.halted := by
  unfold busWrite; split <;> simp
@[simp] theorem busWrite_inhibit (a v : Word) (s : State) : (busWrite a v s).inhibit = s.inhibit := by
  unfold busWrite; split <;> simp
@[simp] theorem busWrite_xword (a v : Word) (s : State) : (busWrite a v s).xword = s.xword := by
  unfold busWrite; split <;> simp
@[simp] theorem busWrite_env (a v : Word) (s : State) : (busWrite a v s).env = s.env := by
  unfold busWrite; split <;> simp
@[simp] theorem busWrite_during (a v : Word) (s : State) : (busWrite a v s).during = s.during := by
  unfold busWrite; split <;> simp
@[simp] theorem busWrite_free (a v : Word) (s : State) : (busWrite a v s).free = s.free := by
  unfold busWrite; split <;> simp

theorem busRead_unwatched (a : Word) (s : State) : (busRead a s).2.dev.unwatched = s.dev.unwatched := by
  unfold busRead
  split <;> simp only [readCycle8, readCycle16, cellByte_dev, emitAt_unwatched, seeAddr_unwatched]

theorem busWrite_unwatched (a v : Word) (s : State) : (busWrite a v s).dev.unwatched = s.dev.unwatched := by
  unfold busWrite
  split <;> simp only [writeCycle8, writeCycle16, storeByte_dev, emitAt_unwatched, seeAddr_unwatched]

/-- A read of a word gives what memory holds at the even address, where memory holds it. -/
theorem busRead_value (a : Word) (s : State) (h : s.holdsWord a = true) : (busRead a s).1 = s.peekWord a := by
  simp only [State.holdsWord, Bool.and_eq_true] at h
  have v : ∀ (b : Word) (t : State), t.cfg = s.cfg → t.mem = s.mem → s.holds b = true →
      (cellByte b t).1 = s.peekByte b := fun b t hc hm hb => by
    rw [cellByte_value b t (by simpa [State.holds, hc] using hb)]
    exact peekByte_of_mem hc hm b
  unfold busRead State.peekWord
  split <;> simp only [readCycle8, readCycle16] <;> rw [v _ _ (by simp) (by simp) h.1, v _ _ (by simp) (by simp) h.2]

theorem emitAt_peek (s : State) (a : Word) (e : BusEvent) (b : Word) : (s.emitAt a e).peekByte b = s.peekByte b :=
  peekByte_of_mem (by simp) (by simp) b

theorem seeAddr_peek (s : State) (a b : Word) : (s.seeAddr a).peekByte b = s.peekByte b :=
  peekByte_of_mem (by simp) (by simp) b

/-- A write of a word, in terms of memory: its two bytes stored. -/
theorem busWrite_peek (a v : Word) (s : State) (b : Word) :
    (busWrite a v s).peekByte b =
      (storeByte (even a + 1) (v.extractLsb' 0 8) (storeByte (even a) (v.extractLsb' 8 8) s)).peekByte b := by
  unfold busWrite
  split <;> simp only [writeCycle8, writeCycle16, storeByte_peek, emitAt_peek, seeAddr_peek] <;> simp [State.keeps]

/-- Everything a store of a word can do to memory. -/
theorem busWrite_stored (a v : Word) (s : State) : WordStored s (busWrite a v s) a v := by
  have hne := busAddr_even_ne s.cfg.part a
  have hk : (storeByte (even a) (v.extractLsb' 8 8) s).keeps (even a + 1) = s.keeps (even a + 1) := by
    simp [State.keeps]
  refine ⟨fun h => ?_, fun h => ?_, fun b h1 h2 => ?_⟩ <;>
    simp only [busWrite_peek, storeByte_peek, hk, storeByte_cfg]
  · rw [if_neg (fun hc => hne hc.2), if_pos ⟨h, trivial⟩]
  · rw [if_pos ⟨h, trivial⟩]
  · rw [if_neg (fun hc => h2 hc.1 hc.2), if_neg (fun hc => h1 hc.1 hc.2)]

theorem writeCycle8_wf (a : Word) (v : Byte) (s : State) (h : Memory.wf s.mem = true) :
    Memory.wf (writeCycle8 a v s).mem = true := storeByte_wf _ _ _ (by simpa using h)

theorem writeCycle16_wf (a v : Word) (s : State) (h : Memory.wf s.mem = true) :
    Memory.wf (writeCycle16 a v s).mem = true := storeByte_wf _ _ _ (storeByte_wf _ _ _ (by simpa using h))

theorem busWrite_wf (a v : Word) (s : State) (h : Memory.wf s.mem = true) : Memory.wf (busWrite a v s).mem = true := by
  unfold busWrite
  split
  · exact writeCycle8_wf _ _ _ (writeCycle8_wf _ _ _ h)
  · exact writeCycle16_wf _ _ _ h

theorem writeCycle8_below (a : Word) (v : Byte) (s : State) (h : Memory.below s.mem (busSize s.cfg.part) = true) :
    Memory.below (writeCycle8 a v s).mem (busSize s.cfg.part) = true := by
  simpa [writeCycle8] using
    storeByte_below a v ((s.seeAddr a).emitAt a (.devWrite (busAddr s.cfg.part a) v)) (by simpa using h)

theorem writeCycle16_below (a v : Word) (s : State) (h : Memory.below s.mem (busSize s.cfg.part) = true) :
    Memory.below (writeCycle16 a v s).mem (busSize s.cfg.part) = true := by
  have h1 := storeByte_below (even a) (v.extractLsb' 8 8)
    ((s.seeAddr (even a)).emitAt (even a) (.devWriteWord (even a).toNat v)) (by simpa using h)
  have h2 := storeByte_below (even a + 1) (v.extractLsb' 0 8) (storeByte (even a) (v.extractLsb' 8 8)
    ((s.seeAddr (even a)).emitAt (even a) (.devWriteWord (even a).toNat v))) (by simpa using h1)
  simpa [writeCycle16] using h2

theorem busWrite_below (a v : Word) (s : State) (h : Memory.below s.mem (busSize s.cfg.part) = true) :
    Memory.below (busWrite a v s).mem (busSize s.cfg.part) = true := by
  unfold busWrite
  split
  · have h1 := writeCycle8_below (even a) (v.extractLsb' 8 8) s h
    simpa using writeCycle8_below (even a + 1) (v.extractLsb' 0 8) (writeCycle8 (even a) (v.extractLsb' 8 8) s)
      (by simpa using h1)
  · exact writeCycle16_below _ _ _ h

/-! ## What happens outside before a bus cycle -/

@[simp] theorem dmaRead_cfg (a : Word) (s : State) : (s.dmaRead a).cfg = s.cfg := by
  unfold State.dmaRead; split <;> simp
@[simp] theorem dmaRead_pc (a : Word) (s : State) : (s.dmaRead a).pc = s.pc := by
  unfold State.dmaRead; split <;> simp
@[simp] theorem dmaRead_wp (a : Word) (s : State) : (s.dmaRead a).wp = s.wp := by
  unfold State.dmaRead; split <;> simp
@[simp] theorem dmaRead_st (a : Word) (s : State) : (s.dmaRead a).st = s.st := by
  unfold State.dmaRead; split <;> simp
@[simp] theorem dmaRead_halted (a : Word) (s : State) : (s.dmaRead a).halted = s.halted := by
  unfold State.dmaRead; split <;> simp
@[simp] theorem dmaRead_inhibit (a : Word) (s : State) : (s.dmaRead a).inhibit = s.inhibit := by
  unfold State.dmaRead; split <;> simp
@[simp] theorem dmaRead_xword (a : Word) (s : State) : (s.dmaRead a).xword = s.xword := by
  unfold State.dmaRead; split <;> simp
@[simp] theorem dmaRead_env (a : Word) (s : State) : (s.dmaRead a).env = s.env := by
  unfold State.dmaRead; split <;> simp
@[simp] theorem dmaRead_during (a : Word) (s : State) : (s.dmaRead a).during = s.during := by
  unfold State.dmaRead; split <;> simp
@[simp] theorem dmaRead_mem (a : Word) (s : State) : (s.dmaRead a).mem = s.mem := by
  unfold State.dmaRead; split <;> simp
@[simp] theorem dmaWrite_cfg (a v : Word) (s : State) : (s.dmaWrite a v).cfg = s.cfg := by
  unfold State.dmaWrite; split <;> simp
@[simp] theorem dmaWrite_pc (a v : Word) (s : State) : (s.dmaWrite a v).pc = s.pc := by
  unfold State.dmaWrite; split <;> simp
@[simp] theorem dmaWrite_wp (a v : Word) (s : State) : (s.dmaWrite a v).wp = s.wp := by
  unfold State.dmaWrite; split <;> simp
@[simp] theorem dmaWrite_st (a v : Word) (s : State) : (s.dmaWrite a v).st = s.st := by
  unfold State.dmaWrite; split <;> simp
@[simp] theorem dmaWrite_halted (a v : Word) (s : State) : (s.dmaWrite a v).halted = s.halted := by
  unfold State.dmaWrite; split <;> simp
@[simp] theorem dmaWrite_inhibit (a v : Word) (s : State) : (s.dmaWrite a v).inhibit = s.inhibit := by
  unfold State.dmaWrite; split <;> simp
@[simp] theorem dmaWrite_xword (a v : Word) (s : State) : (s.dmaWrite a v).xword = s.xword := by
  unfold State.dmaWrite; split <;> simp
@[simp] theorem dmaWrite_env (a v : Word) (s : State) : (s.dmaWrite a v).env = s.env := by
  unfold State.dmaWrite; split <;> simp
@[simp] theorem dmaWrite_during (a v : Word) (s : State) : (s.dmaWrite a v).during = s.during := by
  unfold State.dmaWrite; split <;> simp
@[simp] theorem dmaWrite_free (a v : Word) (s : State) : (s.dmaWrite a v).free = s.free := by
  unfold State.dmaWrite; split <;> simp
@[simp] theorem applyDev_cfg (e : DevEvent) (s : State) : (applyDev e s).cfg = s.cfg := by
  cases e <;> simp [applyDev]
@[simp] theorem applyDev_pc (e : DevEvent) (s : State) : (applyDev e s).pc = s.pc := by
  cases e <;> simp [applyDev]
@[simp] theorem applyDev_wp (e : DevEvent) (s : State) : (applyDev e s).wp = s.wp := by
  cases e <;> simp [applyDev]
@[simp] theorem applyDev_st (e : DevEvent) (s : State) : (applyDev e s).st = s.st := by
  cases e <;> simp [applyDev]
@[simp] theorem applyDev_halted (e : DevEvent) (s : State) : (applyDev e s).halted = s.halted := by
  cases e <;> simp [applyDev]
@[simp] theorem applyDev_inhibit (e : DevEvent) (s : State) : (applyDev e s).inhibit = s.inhibit := by
  cases e <;> simp [applyDev]
@[simp] theorem applyDev_xword (e : DevEvent) (s : State) : (applyDev e s).xword = s.xword := by
  cases e <;> simp [applyDev]
@[simp] theorem applyDev_env (e : DevEvent) (s : State) : (applyDev e s).env = s.env := by
  cases e <;> simp [applyDev]
@[simp] theorem applyDev_during (e : DevEvent) (s : State) : (applyDev e s).during = s.during := by
  cases e <;> simp [applyDev]
@[simp] theorem applyDev_mem (e : DevEvent) (s : State) : (applyDev e s).mem = s.mem := by
  cases e <;> simp [applyDev]
@[simp] theorem State.drivePins_cfg (s : State) (p : Pins) : (s.drivePins p).cfg = s.cfg := by
  simp [State.drivePins]
@[simp] theorem applyPlatform_cfg (s : State) (e : PlatformEvent) : (applyPlatform s e).cfg = s.cfg := by
  cases e <;> simp [applyPlatform]
@[simp] theorem applyPlatforms_cfg (es : List PlatformEvent) (s : State) : (es.foldl applyPlatform s).cfg = s.cfg := by
  induction es generalizing s with
  | nil => rfl
  | cons e es ih => rw [List.foldl_cons, ih, applyPlatform_cfg]
@[simp] theorem State.drivePins_pc (s : State) (p : Pins) : (s.drivePins p).pc = s.pc := by
  simp [State.drivePins]
@[simp] theorem applyPlatform_pc (s : State) (e : PlatformEvent) : (applyPlatform s e).pc = s.pc := by
  cases e <;> simp [applyPlatform]
@[simp] theorem applyPlatforms_pc (es : List PlatformEvent) (s : State) : (es.foldl applyPlatform s).pc = s.pc := by
  induction es generalizing s with
  | nil => rfl
  | cons e es ih => rw [List.foldl_cons, ih, applyPlatform_pc]
@[simp] theorem State.drivePins_wp (s : State) (p : Pins) : (s.drivePins p).wp = s.wp := by
  simp [State.drivePins]
@[simp] theorem applyPlatform_wp (s : State) (e : PlatformEvent) : (applyPlatform s e).wp = s.wp := by
  cases e <;> simp [applyPlatform]
@[simp] theorem applyPlatforms_wp (es : List PlatformEvent) (s : State) : (es.foldl applyPlatform s).wp = s.wp := by
  induction es generalizing s with
  | nil => rfl
  | cons e es ih => rw [List.foldl_cons, ih, applyPlatform_wp]
@[simp] theorem State.drivePins_st (s : State) (p : Pins) : (s.drivePins p).st = s.st := by
  simp [State.drivePins]
@[simp] theorem applyPlatform_st (s : State) (e : PlatformEvent) : (applyPlatform s e).st = s.st := by
  cases e <;> simp [applyPlatform]
@[simp] theorem applyPlatforms_st (es : List PlatformEvent) (s : State) : (es.foldl applyPlatform s).st = s.st := by
  induction es generalizing s with
  | nil => rfl
  | cons e es ih => rw [List.foldl_cons, ih, applyPlatform_st]
@[simp] theorem State.drivePins_halted (s : State) (p : Pins) : (s.drivePins p).halted = s.halted := by
  simp [State.drivePins]
@[simp] theorem applyPlatform_halted (s : State) (e : PlatformEvent) : (applyPlatform s e).halted = s.halted := by
  cases e <;> simp [applyPlatform]
@[simp] theorem applyPlatforms_halted (es : List PlatformEvent) (s : State) :
    (es.foldl applyPlatform s).halted = s.halted := by
  induction es generalizing s with
  | nil => rfl
  | cons e es ih => rw [List.foldl_cons, ih, applyPlatform_halted]
@[simp] theorem State.drivePins_inhibit (s : State) (p : Pins) : (s.drivePins p).inhibit = s.inhibit := by
  simp [State.drivePins]
@[simp] theorem applyPlatform_inhibit (s : State) (e : PlatformEvent) : (applyPlatform s e).inhibit = s.inhibit := by
  cases e <;> simp [applyPlatform]
@[simp] theorem applyPlatforms_inhibit (es : List PlatformEvent) (s : State) :
    (es.foldl applyPlatform s).inhibit = s.inhibit := by
  induction es generalizing s with
  | nil => rfl
  | cons e es ih => rw [List.foldl_cons, ih, applyPlatform_inhibit]
@[simp] theorem State.drivePins_xword (s : State) (p : Pins) : (s.drivePins p).xword = s.xword := by
  simp [State.drivePins]
@[simp] theorem applyPlatform_xword (s : State) (e : PlatformEvent) : (applyPlatform s e).xword = s.xword := by
  cases e <;> simp [applyPlatform]
@[simp] theorem applyPlatforms_xword (es : List PlatformEvent) (s : State) :
    (es.foldl applyPlatform s).xword = s.xword := by
  induction es generalizing s with
  | nil => rfl
  | cons e es ih => rw [List.foldl_cons, ih, applyPlatform_xword]
@[simp] theorem State.drivePins_env (s : State) (p : Pins) : (s.drivePins p).env = s.env := by
  simp [State.drivePins]
@[simp] theorem applyPlatform_env (s : State) (e : PlatformEvent) : (applyPlatform s e).env = s.env := by
  cases e <;> simp [applyPlatform]
@[simp] theorem applyPlatforms_env (es : List PlatformEvent) (s : State) : (es.foldl applyPlatform s).env = s.env := by
  induction es generalizing s with
  | nil => rfl
  | cons e es ih => rw [List.foldl_cons, ih, applyPlatform_env]
@[simp] theorem State.drivePins_during (s : State) (p : Pins) : (s.drivePins p).during = s.during := by
  simp [State.drivePins]
@[simp] theorem applyPlatform_during (s : State) (e : PlatformEvent) : (applyPlatform s e).during = s.during := by
  cases e <;> simp [applyPlatform]
@[simp] theorem applyPlatforms_during (es : List PlatformEvent) (s : State) :
    (es.foldl applyPlatform s).during = s.during := by
  induction es generalizing s with
  | nil => rfl
  | cons e es ih => rw [List.foldl_cons, ih, applyPlatform_during]
@[simp] theorem State.drivePins_mem (s : State) (p : Pins) : (s.drivePins p).mem = s.mem := by
  simp [State.drivePins]
@[simp] theorem applyPlatform_mem (s : State) (e : PlatformEvent) : (applyPlatform s e).mem = s.mem := by
  cases e <;> simp [applyPlatform]
@[simp] theorem applyPlatforms_mem (es : List PlatformEvent) (s : State) : (es.foldl applyPlatform s).mem = s.mem := by
  induction es generalizing s with
  | nil => rfl
  | cons e es ih => rw [List.foldl_cons, ih, applyPlatform_mem]
@[simp] theorem State.react_cfg (s : State) (code : BitVec 3) : (s.react code).cfg = s.cfg := by
  unfold State.react; split <;> simp
@[simp] theorem State.react_pc (s : State) (code : BitVec 3) : (s.react code).pc = s.pc := by
  unfold State.react; split <;> simp
@[simp] theorem State.react_wp (s : State) (code : BitVec 3) : (s.react code).wp = s.wp := by
  unfold State.react; split <;> simp
@[simp] theorem State.react_st (s : State) (code : BitVec 3) : (s.react code).st = s.st := by
  unfold State.react; split <;> simp
@[simp] theorem State.react_halted (s : State) (code : BitVec 3) : (s.react code).halted = s.halted := by
  unfold State.react; split <;> simp
@[simp] theorem State.react_inhibit (s : State) (code : BitVec 3) : (s.react code).inhibit = s.inhibit := by
  unfold State.react; split <;> simp
@[simp] theorem State.react_xword (s : State) (code : BitVec 3) : (s.react code).xword = s.xword := by
  unfold State.react; split <;> simp
@[simp] theorem State.react_during (s : State) (code : BitVec 3) : (s.react code).during = s.during := by
  unfold State.react; split <;> simp
@[simp] theorem State.react_mem (s : State) (code : BitVec 3) : (s.react code).mem = s.mem := by
  unfold State.react; split <;> simp
/-- A system with no reaction to the code (D28's default) does nothing. -/
theorem State.react_none (s : State) (code : BitVec 3) (h : ∀ r ∈ s.cfg.extCtl, r.code ≠ code) : s.react code = s := by
  have e : (s.cfg.extCtl.find? fun r => r.code == code) = none := by simpa [List.find?_eq_none] using h
  simp [State.react, e]
/-- A system whose first reaction is to the code does what that says. -/
theorem State.react_first (s : State) (r : ExtReaction) (rest : List ExtReaction) (h : s.cfg.extCtl = r :: rest) :
    s.react r.code = (r.now.foldl applyPlatform s).setEnv (joinEnv r.later s.env) := by
  simp [State.react, h]
/-- A platform event is not recorded as an event of the CPU's bus. -/
@[simp] theorem applyPlatform_log (s : State) (e : PlatformEvent) : (applyPlatform s e).dev.log = s.dev.log := by
  cases e with
  | dev d =>
    cases d <;> simp only [applyPlatform, applyDev, State.drivePsiP] <;> (try split) <;> rfl
  | _ => rfl
@[simp] theorem applyPlatforms_log (es : List PlatformEvent) (s : State) :
    (es.foldl applyPlatform s).dev.log = s.dev.log := by
  induction es generalizing s with
  | nil => rfl
  | cons e es ih => rw [List.foldl_cons, ih, applyPlatform_log]
@[simp] theorem State.react_log (s : State) (code : BitVec 3) : (s.react code).dev.log = s.dev.log := by
  unfold State.react; split <;> simp
@[simp] theorem applyMid_cfg (s : State) (e : MidEvent) : (applyMid s e).cfg = s.cfg := by
  cases e <;> simp [applyMid]
@[simp] theorem applyMid_pc (s : State) (e : MidEvent) : (applyMid s e).pc = s.pc := by
  cases e <;> simp [applyMid]
@[simp] theorem applyMid_wp (s : State) (e : MidEvent) : (applyMid s e).wp = s.wp := by
  cases e <;> simp [applyMid]
@[simp] theorem applyMid_st (s : State) (e : MidEvent) : (applyMid s e).st = s.st := by
  cases e <;> simp [applyMid]
@[simp] theorem applyMid_halted (s : State) (e : MidEvent) : (applyMid s e).halted = s.halted := by
  cases e <;> simp [applyMid]
@[simp] theorem applyMid_inhibit (s : State) (e : MidEvent) : (applyMid s e).inhibit = s.inhibit := by
  cases e <;> simp [applyMid]
@[simp] theorem applyMid_xword (s : State) (e : MidEvent) : (applyMid s e).xword = s.xword := by
  cases e <;> simp [applyMid]
@[simp] theorem applyMid_env (s : State) (e : MidEvent) : (applyMid s e).env = s.env := by
  cases e <;> simp [applyMid]
@[simp] theorem applyMid_during (s : State) (e : MidEvent) : (applyMid s e).during = s.during := by
  cases e <;> simp [applyMid]
@[simp] theorem applyMids_cfg (es : List MidEvent) (s : State) : (es.foldl applyMid s).cfg = s.cfg := by
  induction es generalizing s with
  | nil => rfl
  | cons e es ih => rw [List.foldl_cons, ih, applyMid_cfg]
@[simp] theorem applyMids_pc (es : List MidEvent) (s : State) : (es.foldl applyMid s).pc = s.pc := by
  induction es generalizing s with
  | nil => rfl
  | cons e es ih => rw [List.foldl_cons, ih, applyMid_pc]
@[simp] theorem applyMids_wp (es : List MidEvent) (s : State) : (es.foldl applyMid s).wp = s.wp := by
  induction es generalizing s with
  | nil => rfl
  | cons e es ih => rw [List.foldl_cons, ih, applyMid_wp]
@[simp] theorem applyMids_st (es : List MidEvent) (s : State) : (es.foldl applyMid s).st = s.st := by
  induction es generalizing s with
  | nil => rfl
  | cons e es ih => rw [List.foldl_cons, ih, applyMid_st]
@[simp] theorem applyMids_halted (es : List MidEvent) (s : State) : (es.foldl applyMid s).halted = s.halted := by
  induction es generalizing s with
  | nil => rfl
  | cons e es ih => rw [List.foldl_cons, ih, applyMid_halted]
@[simp] theorem applyMids_inhibit (es : List MidEvent) (s : State) : (es.foldl applyMid s).inhibit = s.inhibit := by
  induction es generalizing s with
  | nil => rfl
  | cons e es ih => rw [List.foldl_cons, ih, applyMid_inhibit]
@[simp] theorem applyMids_xword (es : List MidEvent) (s : State) : (es.foldl applyMid s).xword = s.xword := by
  induction es generalizing s with
  | nil => rfl
  | cons e es ih => rw [List.foldl_cons, ih, applyMid_xword]
@[simp] theorem applyMids_env (es : List MidEvent) (s : State) : (es.foldl applyMid s).env = s.env := by
  induction es generalizing s with
  | nil => rfl
  | cons e es ih => rw [List.foldl_cons, ih, applyMid_env]
@[simp] theorem applyMids_during (es : List MidEvent) (s : State) : (es.foldl applyMid s).during = s.during := by
  induction es generalizing s with
  | nil => rfl
  | cons e es ih => rw [List.foldl_cons, ih, applyMid_during]
@[simp] theorem State.busCycle_cfg (s : State) : s.busCycle.cfg = s.cfg := by
  unfold State.busCycle; split <;> simp
@[simp] theorem State.busCycle_pc (s : State) : s.busCycle.pc = s.pc := by
  unfold State.busCycle; split <;> simp
@[simp] theorem State.busCycle_wp (s : State) : s.busCycle.wp = s.wp := by
  unfold State.busCycle; split <;> simp
@[simp] theorem State.busCycle_st (s : State) : s.busCycle.st = s.st := by
  unfold State.busCycle; split <;> simp
@[simp] theorem State.busCycle_halted (s : State) : s.busCycle.halted = s.halted := by
  unfold State.busCycle; split <;> simp
@[simp] theorem State.busCycle_inhibit (s : State) : s.busCycle.inhibit = s.inhibit := by
  unfold State.busCycle; split <;> simp
@[simp] theorem State.busCycle_xword (s : State) : s.busCycle.xword = s.xword := by
  unfold State.busCycle; split <;> simp
@[simp] theorem State.busCycle_env (s : State) : s.busCycle.env = s.env := by
  unfold State.busCycle; split <;> simp
@[simp] theorem State.busCycle_during (s : State) : s.busCycle.during = s.during.tail := by
  unfold State.busCycle; split <;> simp [*]

/-- Where nothing comes from outside, nothing happens before a bus cycle. -/
theorem State.busCycle_quiet (s : State) (h : s.during = []) : s.busCycle = s := by
  unfold State.busCycle; split
  · rfl
  · simp_all

theorem applyMid_wf (e : MidEvent) (s : State) (h : Memory.wf s.mem = true) :
    Memory.wf (applyMid s e).mem = true := by
  cases e with
  | dev e => simpa [applyMid] using h
  | dmaRead a => simpa [applyMid] using h
  | dmaWrite a v =>
    simp only [applyMid, State.dmaWrite]
    split
    · exact writeCycle16_wf _ _ _ h
    · exact writeCycle8_wf _ _ _ h
    · exact h

theorem applyMid_below (e : MidEvent) (s : State) (h : Memory.below s.mem (busSize s.cfg.part) = true) :
    Memory.below (applyMid s e).mem (busSize s.cfg.part) = true := by
  cases e with
  | dev e => simpa [applyMid] using h
  | dmaRead a => simpa [applyMid] using h
  | dmaWrite a v =>
    simp only [applyMid, State.dmaWrite]
    split
    · exact writeCycle16_below _ _ _ h
    · exact writeCycle8_below _ _ _ h
    · exact h

theorem applyMids_wf (es : List MidEvent) (s : State) (h : Memory.wf s.mem = true) :
    Memory.wf (es.foldl applyMid s).mem = true := by
  induction es generalizing s with
  | nil => exact h
  | cons e es ih => exact ih _ (applyMid_wf e s h)

theorem applyMids_below (es : List MidEvent) (s : State) (h : Memory.below s.mem (busSize s.cfg.part) = true) :
    Memory.below (es.foldl applyMid s).mem (busSize s.cfg.part) = true := by
  induction es generalizing s with
  | nil => exact h
  | cons e es ih => simpa using ih (applyMid s e) (by simpa using applyMid_below e s h)

theorem State.busCycle_wf (s : State) (h : Memory.wf s.mem = true) : Memory.wf s.busCycle.mem = true := by
  unfold State.busCycle; split
  · exact h
  · exact applyMids_wf _ _ h

theorem State.busCycle_below (s : State) (h : Memory.below s.mem (busSize s.cfg.part) = true) :
    Memory.below s.busCycle.mem (busSize s.cfg.part) = true := by
  unfold State.busCycle; split
  · exact h
  · rename_i batch later _
    simpa using applyMids_below batch (s.setDuring later) h

/-! ## Words -/

@[simp] theorem readWord_cfg (a : Word) (s : State) : (readWord a s).2.cfg = s.cfg := by
  simp [readWord]
@[simp] theorem readWord_pc (a : Word) (s : State) : (readWord a s).2.pc = s.pc := by
  simp [readWord]
@[simp] theorem readWord_wp (a : Word) (s : State) : (readWord a s).2.wp = s.wp := by
  simp [readWord]
@[simp] theorem readWord_st (a : Word) (s : State) : (readWord a s).2.st = s.st := by
  simp [readWord]
@[simp] theorem readWord_halted (a : Word) (s : State) : (readWord a s).2.halted = s.halted := by
  simp [readWord]
@[simp] theorem readWord_inhibit (a : Word) (s : State) : (readWord a s).2.inhibit = s.inhibit := by
  simp [readWord]
@[simp] theorem readWord_xword (a : Word) (s : State) : (readWord a s).2.xword = s.xword := by
  simp [readWord]
@[simp] theorem readWord_env (a : Word) (s : State) : (readWord a s).2.env = s.env := by
  simp [readWord]
@[simp] theorem readWord_during (a : Word) (s : State) : (readWord a s).2.during = s.during.tail := by
  simp [readWord]
@[simp] theorem readWord_mem (a : Word) (s : State) (h : s.during = []) : (readWord a s).2.mem = s.mem := by
  simp [readWord, State.busCycle_quiet, h]
@[simp] theorem writeWord_cfg (a v : Word) (s : State) : (writeWord a v s).cfg = s.cfg := by
  simp [writeWord]
@[simp] theorem writeWord_pc (a v : Word) (s : State) : (writeWord a v s).pc = s.pc := by
  simp [writeWord]
@[simp] theorem writeWord_wp (a v : Word) (s : State) : (writeWord a v s).wp = s.wp := by
  simp [writeWord]
@[simp] theorem writeWord_st (a v : Word) (s : State) : (writeWord a v s).st = s.st := by
  simp [writeWord]
@[simp] theorem writeWord_halted (a v : Word) (s : State) : (writeWord a v s).halted = s.halted := by
  simp [writeWord]
@[simp] theorem writeWord_inhibit (a v : Word) (s : State) : (writeWord a v s).inhibit = s.inhibit := by
  simp [writeWord]
@[simp] theorem writeWord_xword (a v : Word) (s : State) : (writeWord a v s).xword = s.xword := by
  simp [writeWord]
@[simp] theorem writeWord_env (a v : Word) (s : State) : (writeWord a v s).env = s.env := by
  simp [writeWord]
@[simp] theorem writeWord_during (a v : Word) (s : State) : (writeWord a v s).during = s.during.tail := by
  simp [writeWord]

/-- A word access is preceded by what the next batch of `during` holds, and is otherwise an access in quiet (R78,
D10). -/
theorem readWord_after (a : Word) (s : State) (batch : List MidEvent) (later : List (List MidEvent))
    (h : s.during = batch :: later) : readWord a s = busRead a (batch.foldl applyMid (s.setDuring later)) := by
  simp [readWord, State.busCycle, h]

theorem writeWord_after (a v : Word) (s : State) (batch : List MidEvent) (later : List (List MidEvent))
    (h : s.during = batch :: later) : writeWord a v s = busWrite a v (batch.foldl applyMid (s.setDuring later)) := by
  simp [writeWord, State.busCycle, h]

theorem readWord_unwatched (a : Word) (s : State) (h : s.during = []) :
    (readWord a s).2.dev.unwatched = s.dev.unwatched := by
  rw [readWord, s.busCycle_quiet h, busRead_unwatched]

theorem writeWord_unwatched (a v : Word) (s : State) (h : s.during = []) :
    (writeWord a v s).dev.unwatched = s.dev.unwatched := by
  rw [writeWord, s.busCycle_quiet h, busWrite_unwatched]

theorem readWord_memKept (a : Word) (s : State) (h : s.during = []) : MemKept s (readWord a s).2 := fun b =>
  peekByte_of_mem (readWord_cfg a s) (readWord_mem a s h) b

/-- A read of a word gives what memory holds at the even address, where memory holds it. -/
theorem readWord_value (a : Word) (s : State) (q : s.during = []) (h : s.holdsWord a = true) :
    (readWord a s).1 = s.peekWord a := by
  rw [readWord, s.busCycle_quiet q, busRead_value a s h]

/-- Everything a store of a word can do to memory. -/
theorem writeWord_stored (a v : Word) (s : State) (h : s.during = []) : WordStored s (writeWord a v s) a v := by
  rw [writeWord, s.busCycle_quiet h]; exact busWrite_stored a v s

theorem word_of_halves (v : Word) : v.extractLsb' 8 8 ++ v.extractLsb' 0 8 = v := by
  apply BitVec.eq_of_getLsbD_eq
  intro i hi
  rw [BitVec.getLsbD_append]
  by_cases h : i < 8
  · simp [h]
  · have h8 : i - 8 < 8 := by omega
    have e : 8 + (i - 8) = i := by omega
    simp [h, h8, e]

/-- A word that is kept reads back. -/
theorem writeWord_peek (a v : Word) (s : State) (q : s.during = []) (h : s.keepsWord a = true) :
    (writeWord a v s).peekWord a = v := by
  simp only [State.keepsWord, Bool.and_eq_true] at h
  have hs := writeWord_stored a v s q
  simp only [State.peekWord, hs.1 h.1, hs.2.1 h.2]
  exact word_of_halves v

theorem writeWord_wf (a v : Word) (s : State) (h : Memory.wf s.mem = true) : Memory.wf (writeWord a v s).mem = true :=
  busWrite_wf _ _ _ (s.busCycle_wf h)

theorem writeWord_below (a v : Word) (s : State) (h : Memory.below s.mem (busSize s.cfg.part) = true) :
    Memory.below (writeWord a v s).mem (busSize s.cfg.part) = true := by
  simpa [writeWord] using busWrite_below a v s.busCycle (by simpa using s.busCycle_below h)

theorem readWord_wf (a : Word) (s : State) (h : Memory.wf s.mem = true) : Memory.wf (readWord a s).2.mem = true := by
  simpa [readWord] using s.busCycle_wf h

theorem readWord_below (a : Word) (s : State) (h : Memory.below s.mem (busSize s.cfg.part) = true) :
    Memory.below (readWord a s).2.mem (busSize s.cfg.part) = true := by
  simpa [readWord] using s.busCycle_below h

/-! ## Bytes of words -/

theorem byteAt_even (a : Word) (w : Word) : byteAt (even a) w = w.extractLsb' 8 8 := by
  simp [byteAt, show (even a)[0] = false from by simpa using even_bit0 a]

theorem extract_append_high (x y : Byte) : (x ++ y : Word).extractLsb' 8 8 = x := by
  apply BitVec.eq_of_getLsbD_eq
  intro i hi
  simp only [BitVec.getLsbD_extractLsb', BitVec.getLsbD_append]
  simp [hi]

theorem extract_append_low (x y : Byte) : (x ++ y : Word).extractLsb' 0 8 = y := by
  apply BitVec.eq_of_getLsbD_eq
  intro i hi
  simp only [BitVec.getLsbD_extractLsb', BitVec.getLsbD_append]
  simp [hi]

/-- The byte put in is the byte that is there. -/
theorem byteAt_withByte (a w : Word) (b : Byte) : byteAt a (withByte a w b) = b := by
  unfold byteAt withByte
  split
  · exact extract_append_low _ _
  · exact extract_append_high _ _

theorem even_eq_of_bit0 {a : Word} (h : a.getLsbD 0 = true) : even a + 1 = a := by
  apply BitVec.eq_of_toNat_eq
  rw [even_succ_toNat, even_toNat]
  have : a.toNat % 2 = 1 := by
    have := h
    simp only [BitVec.getLsbD, Nat.testBit_zero] at this
    simpa using this
  omega

/-- The byte an address selects in the word memory holds is the byte memory holds there. -/
theorem byteAt_peekWord (a : Word) (s : State) : byteAt a (s.peekWord a) = s.peekByte a := by
  unfold byteAt State.peekWord
  by_cases h : a.getLsbD 0 = true
  · rw [if_pos h, extract_append_low, even_eq_of_bit0 h]
  · rw [if_neg h, extract_append_high, even_of_bit0 a (by simpa using h)]

/-- A store of a byte, with the other byte of its word as memory holds it, stores that byte and changes no other. -/
theorem writeByte_stored (a w : Word) (v : Byte) (s : State) (q : s.during = [])
    (hi : s.keeps (even a) = true → w.extractLsb' 8 8 = s.peekByte (even a))
    (lo : s.keeps (even a + 1) = true → w.extractLsb' 0 8 = s.peekByte (even a + 1)) :
    ByteStored s (writeByte a w v s) a v := by
  have hs := writeWord_stored a (withByte a w v) s q
  unfold writeByte
  by_cases h : a.getLsbD 0 = true
  · have e := even_eq_of_bit0 h
    have hl : (withByte a w v).extractLsb' 0 8 = v := by rw [withByte, if_pos h, extract_append_low]
    have hh : (withByte a w v).extractLsb' 8 8 = w.extractLsb' 8 8 := by
      rw [withByte, if_pos h, extract_append_high]
    simp only [WordStored, e] at hs lo
    refine ⟨fun k => (hs.2.1 k).trans hl, fun b hb => ?_⟩
    by_cases k : s.keeps (even a) = true ∧ samePlace s b (even a)
    · have p : ∀ t : State, t.cfg = s.cfg → t.peekByte b = t.peekByte (even a) := fun t ht => by
        simp only [State.peekByte, ht]; rw [k.2]
      rw [p _ (by simp), p _ rfl, hs.1 k.1, hh, hi k.1]
    · exact hs.2.2 b (fun k1 k2 => k ⟨k1, k2⟩) hb
  · have e := even_of_bit0 a (by simpa using h)
    have hh : (withByte a w v).extractLsb' 8 8 = v := by rw [withByte, if_neg h, extract_append_high]
    have hl : (withByte a w v).extractLsb' 0 8 = w.extractLsb' 0 8 := by
      rw [withByte, if_neg h, extract_append_low]
    simp only [WordStored, e] at hs lo
    refine ⟨fun k => (hs.1 k).trans hh, fun b hb => ?_⟩
    by_cases k : s.keeps (a + 1) = true ∧ samePlace s b (a + 1)
    · have p : ∀ t : State, t.cfg = s.cfg → t.peekByte b = t.peekByte (a + 1) := fun t ht => by
        simp only [State.peekByte, ht]; rw [k.2]
      rw [p _ (by simp), p _ rfl, hs.2.1 k.1, hl, lo k.1]
    · exact hs.2.2 b hb (fun k1 k2 => k ⟨k1, k2⟩)

@[simp] theorem readByte_cfg (a : Word) (s : State) : (readByte a s).2.cfg = s.cfg := by
  simp [readByte]
@[simp] theorem readByte_pc (a : Word) (s : State) : (readByte a s).2.pc = s.pc := by
  simp [readByte]
@[simp] theorem readByte_wp (a : Word) (s : State) : (readByte a s).2.wp = s.wp := by
  simp [readByte]
@[simp] theorem readByte_st (a : Word) (s : State) : (readByte a s).2.st = s.st := by
  simp [readByte]
@[simp] theorem readByte_halted (a : Word) (s : State) : (readByte a s).2.halted = s.halted := by
  simp [readByte]
@[simp] theorem readByte_inhibit (a : Word) (s : State) : (readByte a s).2.inhibit = s.inhibit := by
  simp [readByte]
@[simp] theorem readByte_xword (a : Word) (s : State) : (readByte a s).2.xword = s.xword := by
  simp [readByte]
@[simp] theorem readByte_env (a : Word) (s : State) : (readByte a s).2.env = s.env := by
  simp [readByte]
@[simp] theorem readByte_during (a : Word) (s : State) : (readByte a s).2.during = s.during.tail := by
  simp [readByte]
@[simp] theorem writeByte_cfg (a w : Word) (b : Byte) (s : State) : (writeByte a w b s).cfg = s.cfg := by
  simp [writeByte]
@[simp] theorem writeByte_pc (a w : Word) (b : Byte) (s : State) : (writeByte a w b s).pc = s.pc := by
  simp [writeByte]
@[simp] theorem writeByte_wp (a w : Word) (b : Byte) (s : State) : (writeByte a w b s).wp = s.wp := by
  simp [writeByte]
@[simp] theorem writeByte_st (a w : Word) (b : Byte) (s : State) : (writeByte a w b s).st = s.st := by
  simp [writeByte]
@[simp] theorem writeByte_halted (a w : Word) (b : Byte) (s : State) : (writeByte a w b s).halted = s.halted := by
  simp [writeByte]
@[simp] theorem writeByte_inhibit (a w : Word) (b : Byte) (s : State) : (writeByte a w b s).inhibit = s.inhibit := by
  simp [writeByte]
@[simp] theorem writeByte_xword (a w : Word) (b : Byte) (s : State) : (writeByte a w b s).xword = s.xword := by
  simp [writeByte]
@[simp] theorem writeByte_env (a w : Word) (b : Byte) (s : State) : (writeByte a w b s).env = s.env := by
  simp [writeByte]
@[simp] theorem writeByte_during (a w : Word) (b : Byte) (s : State) : (writeByte a w b s).during = s.during.tail := by
  simp [writeByte]

/-- A read of a byte gives what memory holds, where memory holds the word it is in. -/
theorem readByte_value (a : Word) (s : State) (q : s.during = []) (h : s.holdsWord a = true) :
    (readByte a s).1 = s.peekByte a := by
  simp only [readByte, readWord_value a s q h, byteAt_peekWord]

/-! ## Fetch, registers and operands -/

@[simp] theorem fetch_cfg (s : State) : (fetch s).2.cfg = s.cfg := by
  simp [fetch]
@[simp] theorem fetch_wp (s : State) : (fetch s).2.wp = s.wp := by
  simp [fetch]
@[simp] theorem fetch_st (s : State) : (fetch s).2.st = s.st := by
  simp [fetch]
@[simp] theorem fetch_halted (s : State) : (fetch s).2.halted = s.halted := by
  simp [fetch]
@[simp] theorem fetch_inhibit (s : State) : (fetch s).2.inhibit = s.inhibit := by
  simp [fetch]
@[simp] theorem fetch_xword (s : State) : (fetch s).2.xword = s.xword := by
  simp [fetch]
@[simp] theorem fetch_env (s : State) : (fetch s).2.env = s.env := by
  simp [fetch]
@[simp] theorem fetch_during (s : State) : (fetch s).2.during = s.during.tail := by
  simp [fetch]
@[simp] theorem fetch_mem (s : State) (h : s.during = []) : (fetch s).2.mem = s.mem := by
  simp [fetch, h]
@[simp] theorem fetch_pc (s : State) : (fetch s).2.pc = even (s.pc + 2) := by
  simp [fetch]
@[simp] theorem readReg_cfg (r : Reg) (s : State) : (readReg r s).2.cfg = s.cfg := by
  simp [readReg]
@[simp] theorem readReg_pc (r : Reg) (s : State) : (readReg r s).2.pc = s.pc := by
  simp [readReg]
@[simp] theorem readReg_wp (r : Reg) (s : State) : (readReg r s).2.wp = s.wp := by
  simp [readReg]
@[simp] theorem readReg_st (r : Reg) (s : State) : (readReg r s).2.st = s.st := by
  simp [readReg]
@[simp] theorem readReg_halted (r : Reg) (s : State) : (readReg r s).2.halted = s.halted := by
  simp [readReg]
@[simp] theorem readReg_inhibit (r : Reg) (s : State) : (readReg r s).2.inhibit = s.inhibit := by
  simp [readReg]
@[simp] theorem readReg_xword (r : Reg) (s : State) : (readReg r s).2.xword = s.xword := by
  simp [readReg]
@[simp] theorem readReg_env (r : Reg) (s : State) : (readReg r s).2.env = s.env := by
  simp [readReg]
@[simp] theorem readReg_during (r : Reg) (s : State) : (readReg r s).2.during = s.during.tail := by
  simp [readReg]
@[simp] theorem readReg_mem (r : Reg) (s : State) (h : s.during = []) : (readReg r s).2.mem = s.mem := by
  simp [readReg, h]
@[simp] theorem writeReg_cfg (r : Reg) (v : Word) (s : State) : (writeReg r v s).cfg = s.cfg := by
  simp [writeReg]
@[simp] theorem writeReg_pc (r : Reg) (v : Word) (s : State) : (writeReg r v s).pc = s.pc := by
  simp [writeReg]
@[simp] theorem writeReg_wp (r : Reg) (v : Word) (s : State) : (writeReg r v s).wp = s.wp := by
  simp [writeReg]
@[simp] theorem writeReg_st (r : Reg) (v : Word) (s : State) : (writeReg r v s).st = s.st := by
  simp [writeReg]
@[simp] theorem writeReg_halted (r : Reg) (v : Word) (s : State) : (writeReg r v s).halted = s.halted := by
  simp [writeReg]
@[simp] theorem writeReg_inhibit (r : Reg) (v : Word) (s : State) : (writeReg r v s).inhibit = s.inhibit := by
  simp [writeReg]
@[simp] theorem writeReg_xword (r : Reg) (v : Word) (s : State) : (writeReg r v s).xword = s.xword := by
  simp [writeReg]
@[simp] theorem writeReg_env (r : Reg) (v : Word) (s : State) : (writeReg r v s).env = s.env := by
  simp [writeReg]
@[simp] theorem writeReg_during (r : Reg) (v : Word) (s : State) : (writeReg r v s).during = s.during.tail := by
  simp [writeReg]
@[simp] theorem effAddr_cfg (o : Operand) (z : Size) (s : State) : (effAddr o z s).2.cfg = s.cfg := by
  cases o <;> simp [effAddr]
@[simp] theorem effAddr_wp (o : Operand) (z : Size) (s : State) : (effAddr o z s).2.wp = s.wp := by
  cases o <;> simp [effAddr]
@[simp] theorem effAddr_st (o : Operand) (z : Size) (s : State) : (effAddr o z s).2.st = s.st := by
  cases o <;> simp [effAddr]
@[simp] theorem effAddr_halted (o : Operand) (z : Size) (s : State) : (effAddr o z s).2.halted = s.halted := by
  cases o <;> simp [effAddr]
@[simp] theorem effAddr_inhibit (o : Operand) (z : Size) (s : State) : (effAddr o z s).2.inhibit = s.inhibit := by
  cases o <;> simp [effAddr]
@[simp] theorem effAddr_xword (o : Operand) (z : Size) (s : State) : (effAddr o z s).2.xword = s.xword := by
  cases o <;> simp [effAddr]
@[simp] theorem effAddr_env (o : Operand) (z : Size) (s : State) : (effAddr o z s).2.env = s.env := by
  cases o <;> simp [effAddr]
@[simp] theorem readOperand16_cfg (o : Operand) (s : State) : (readOperand16 o s).state.cfg = s.cfg := by
  simp [readOperand16]
@[simp] theorem readOperand16_wp (o : Operand) (s : State) : (readOperand16 o s).state.wp = s.wp := by
  simp [readOperand16]
@[simp] theorem readOperand16_st (o : Operand) (s : State) : (readOperand16 o s).state.st = s.st := by
  simp [readOperand16]
@[simp] theorem readOperand16_halted (o : Operand) (s : State) : (readOperand16 o s).state.halted = s.halted := by
  simp [readOperand16]
@[simp] theorem readOperand16_inhibit (o : Operand) (s : State) : (readOperand16 o s).state.inhibit = s.inhibit := by
  simp [readOperand16]
@[simp] theorem readOperand16_xword (o : Operand) (s : State) : (readOperand16 o s).state.xword = s.xword := by
  simp [readOperand16]
@[simp] theorem readOperand16_env (o : Operand) (s : State) : (readOperand16 o s).state.env = s.env := by
  simp [readOperand16]
@[simp] theorem readOperand8_cfg (o : Operand) (s : State) : (readOperand8 o s).state.cfg = s.cfg := by
  simp [readOperand8]
@[simp] theorem readOperand8_wp (o : Operand) (s : State) : (readOperand8 o s).state.wp = s.wp := by
  simp [readOperand8]
@[simp] theorem readOperand8_st (o : Operand) (s : State) : (readOperand8 o s).state.st = s.st := by
  simp [readOperand8]
@[simp] theorem readOperand8_halted (o : Operand) (s : State) : (readOperand8 o s).state.halted = s.halted := by
  simp [readOperand8]
@[simp] theorem readOperand8_inhibit (o : Operand) (s : State) : (readOperand8 o s).state.inhibit = s.inhibit := by
  simp [readOperand8]
@[simp] theorem readOperand8_xword (o : Operand) (s : State) : (readOperand8 o s).state.xword = s.xword := by
  simp [readOperand8]
@[simp] theorem readOperand8_env (o : Operand) (s : State) : (readOperand8 o s).state.env = s.env := by
  simp [readOperand8]
@[simp] theorem writeOperand8_cfg (d : Fetched 8) (b : Byte) (s : State) : (writeOperand8 d b s).cfg = s.cfg := by
  simp [writeOperand8]
@[simp] theorem writeOperand8_pc (d : Fetched 8) (b : Byte) (s : State) : (writeOperand8 d b s).pc = s.pc := by
  simp [writeOperand8]
@[simp] theorem writeOperand8_wp (d : Fetched 8) (b : Byte) (s : State) : (writeOperand8 d b s).wp = s.wp := by
  simp [writeOperand8]
@[simp] theorem writeOperand8_st (d : Fetched 8) (b : Byte) (s : State) : (writeOperand8 d b s).st = s.st := by
  simp [writeOperand8]
@[simp] theorem writeOperand8_halted (d : Fetched 8) (b : Byte) (s : State) :
    (writeOperand8 d b s).halted = s.halted := by
  simp [writeOperand8]
@[simp] theorem writeOperand8_inhibit (d : Fetched 8) (b : Byte) (s : State) :
    (writeOperand8 d b s).inhibit = s.inhibit := by
  simp [writeOperand8]
@[simp] theorem writeOperand8_xword (d : Fetched 8) (b : Byte) (s : State) : (writeOperand8 d b s).xword = s.xword := by
  simp [writeOperand8]
@[simp] theorem writeOperand8_env (d : Fetched 8) (b : Byte) (s : State) : (writeOperand8 d b s).env = s.env := by
  simp [writeOperand8]
@[simp] theorem writeOperand8_during (d : Fetched 8) (b : Byte) (s : State) :
    (writeOperand8 d b s).during = s.during.tail := by
  simp [writeOperand8]

/-- Where nothing comes from outside at the start, nothing does later in the instruction. -/
@[simp] theorem effAddr_quiet (o : Operand) (z : Size) (s : State) (h : s.during = []) :
    (effAddr o z s).2.during = [] := by
  cases o <;> simp [effAddr, h]

@[simp] theorem readOperand16_quiet (o : Operand) (s : State) (h : s.during = []) :
    (readOperand16 o s).state.during = [] := by
  simp [readOperand16, h]

@[simp] theorem readOperand8_quiet (o : Operand) (s : State) (h : s.during = []) :
    (readOperand8 o s).state.during = [] := by
  simp [readOperand8, h]

theorem fetch_unwatched (s : State) (h : s.during = []) : (fetch s).2.dev.unwatched = s.dev.unwatched := by
  simp only [fetch, State.setPc_dev, readWord_unwatched _ _ h]

theorem effAddr_unwatched (o : Operand) (z : Size) (s : State) (h : s.during = []) :
    (effAddr o z s).2.dev.unwatched = s.dev.unwatched := by
  have f : (fetch s).2.during = [] := by simp [h]
  cases o <;> simp only [effAddr, readReg, writeReg]
  · exact readWord_unwatched _ _ h
  · exact fetch_unwatched s h
  · rw [readWord_unwatched _ _ f, fetch_unwatched s h]
  · rw [writeWord_unwatched _ _ _ (by simp [h]), readWord_unwatched _ _ h]

theorem readOperand16_unwatched (o : Operand) (s : State) (h : s.during = []) :
    (readOperand16 o s).state.dev.unwatched = s.dev.unwatched := by
  simp only [readOperand16, readWord_unwatched _ _ (effAddr_quiet o .word s h), effAddr_unwatched o _ s h]

theorem readOperand8_unwatched (o : Operand) (s : State) (h : s.during = []) :
    (readOperand8 o s).state.dev.unwatched = s.dev.unwatched := by
  simp only [readOperand8, readWord_unwatched _ _ (effAddr_quiet o .byte s h), effAddr_unwatched o _ s h]

/-- Reading an operand changes no memory once its address is computed. -/
theorem readOperand8_mem (o : Operand) (s : State) (h : s.during = []) :
    (readOperand8 o s).state.mem = (effAddr o .byte s).2.mem := by
  simp [readOperand8, h]

theorem readOperand16_mem (o : Operand) (s : State) (h : s.during = []) :
    (readOperand16 o s).state.mem = (effAddr o .word s).2.mem := by
  simp [readOperand16, h]

/-- The word read with a byte operand holds, at both its bytes, what memory holds there. -/
theorem busRead_halves (a : Word) (s : State) :
    (s.holds (even a) = true → (busRead a s).1.extractLsb' 8 8 = s.peekByte (even a)) ∧
      (s.holds (even a + 1) = true → (busRead a s).1.extractLsb' 0 8 = s.peekByte (even a + 1)) := by
  have v : ∀ (b : Word) (t : State), t.cfg = s.cfg → t.mem = s.mem → s.holds b = true →
      (cellByte b t).1 = s.peekByte b := fun b t hc hm hb => by
    rw [cellByte_value b t (by simpa [State.holds, hc] using hb)]
    exact peekByte_of_mem hc hm b
  unfold busRead
  constructor <;> intro h <;> split <;> simp only [readCycle8, readCycle16, extract_append_high, extract_append_low] <;>
    exact v _ _ (by simp) (by simp) h

theorem holds_of_keeps (s : State) (a : Word) (h : s.keeps a = true) : s.holds a = true := by
  simp only [State.keeps, State.holds] at *
  simp_all

/-- Everything a write of a byte operand does to memory, where memory is as it was when the operand was read: the byte
at its address is stored, and no other byte changes. -/
theorem writeOperand8_stored (o : Operand) (b : Byte) (s u : State) (h : s.during = []) (hq : u.during = [])
    (hc : u.cfg = s.cfg) (hm : u.mem = (readOperand8 o s).state.mem) :
    ByteStored u (writeOperand8 (readOperand8 o s) b u) (readOperand8 o s).addr b := by
  have hw : (readOperand8 o s).word = (busRead (effAddr o .byte s).1 (effAddr o .byte s).2).1 := by
    simp only [readOperand8, readWord, State.busCycle_quiet _ (effAddr_quiet o .byte s h)]
  have e : ∀ x, u.peekByte x = (effAddr o .byte s).2.peekByte x := fun x =>
    peekByte_of_mem (by rw [hc]; simp) (by rw [hm, readOperand8_mem o s h]) x
  have k : ∀ x, u.keeps x = true → (effAddr o .byte s).2.holds x = true := fun x hx =>
    holds_of_keeps _ x (by simpa [State.keeps, hc] using hx)
  have hv := busRead_halves (effAddr o .byte s).1 (effAddr o .byte s).2
  apply writeByte_stored _ _ _ _ hq
  · intro hx; rw [hw, e]; exact hv.1 (k _ hx)
  · intro hx; rw [hw, e]; exact hv.2 (k _ hx)

theorem writeOperand8_unwatched (d : Fetched 8) (b : Byte) (s : State) (h : s.during = []) :
    (writeOperand8 d b s).dev.unwatched = s.dev.unwatched := writeWord_unwatched _ _ _ h

/-! ## The context switches -/

@[simp] theorem contextSwitch_cfg (v : Word) (link : Option Word) (s : State) :
    (contextSwitch v link s).cfg = s.cfg := by
  cases link <;> simp [contextSwitch]
@[simp] theorem contextSwitch_st (v : Word) (link : Option Word) (s : State) :
    (contextSwitch v link s).st = s.st := by
  cases link <;> simp [contextSwitch]
@[simp] theorem contextSwitch_halted (v : Word) (link : Option Word) (s : State) :
    (contextSwitch v link s).halted = s.halted := by
  cases link <;> simp [contextSwitch]
@[simp] theorem contextSwitch_inhibit (v : Word) (link : Option Word) (s : State) :
    (contextSwitch v link s).inhibit = s.inhibit := by
  cases link <;> simp [contextSwitch]
@[simp] theorem contextSwitch_xword (v : Word) (link : Option Word) (s : State) :
    (contextSwitch v link s).xword = s.xword := by
  cases link <;> simp [contextSwitch]
@[simp] theorem contextSwitch_env (v : Word) (link : Option Word) (s : State) :
    (contextSwitch v link s).env = s.env := by
  cases link <;> simp [contextSwitch]
@[simp] theorem contextSwitch_quiet (v : Word) (link : Option Word) (s : State) (h : s.during = []) :
    (contextSwitch v link s).during = [] := by
  cases link <;> simp [contextSwitch, h]
@[simp] theorem returnSwitch_cfg (s : State) : (returnSwitch s).cfg = s.cfg := by
  simp [returnSwitch]
@[simp] theorem returnSwitch_halted (s : State) : (returnSwitch s).halted = s.halted := by
  simp [returnSwitch]
@[simp] theorem returnSwitch_inhibit (s : State) : (returnSwitch s).inhibit = s.inhibit := by
  simp [returnSwitch]
@[simp] theorem returnSwitch_xword (s : State) : (returnSwitch s).xword = s.xword := by
  simp [returnSwitch]
@[simp] theorem returnSwitch_env (s : State) : (returnSwitch s).env = s.env := by
  simp [returnSwitch]
@[simp] theorem returnSwitch_quiet (s : State) (h : s.during = []) : (returnSwitch s).during = [] := by
  simp [returnSwitch, h]
@[simp] theorem returnSwitch_mem (s : State) (h : s.during = []) : (returnSwitch s).mem = s.mem := by
  simp [returnSwitch, h]

theorem contextSwitch_unwatched (v : Word) (link : Option Word) (s : State) (h : s.during = []) :
    (contextSwitch v link s).dev.unwatched = s.dev.unwatched := by
  cases link <;> simp only [contextSwitch, State.setPc_dev, State.setWp_dev] <;>
    simp [readWord_unwatched, writeWord_unwatched, h]

/-! ## Flags -/

theorem withBit_getLsbD {w : Nat} (v : BitVec w) (k j : Nat) (b : Bool) (hk : k < w) :
    (withBit v k b).getLsbD j = if j = k then b else v.getLsbD j := by
  unfold withBit
  by_cases h : j = k
  · subst h; cases b <;> simp [hk]
  · by_cases hj : j < w
    · cases b <;> simp [h, hj]
    · cases b <;> simp [BitVec.getLsbD_of_ge, h, Nat.le_of_not_lt hj]

theorem flagBit_lt (f : Flag) : flagBit f < 16 := by cases f <;> decide

theorem flagBit_inj {f g : Flag} (h : flagBit f = flagBit g) : f = g := by
  cases f <;> cases g <;> first | rfl | exact absurd h (by decide)

/-- A flag after a flag is set. -/
@[simp] theorem flag_setFlag (s : State) (f g : Flag) (b : Bool) :
    (s.setFlag f b).flag g = if g = f then b else s.flag g := by
  simp only [State.flag, State.setFlag_st, withBit_getLsbD _ _ _ _ (flagBit_lt f)]
  by_cases h : g = f
  · simp [h]
  · have : flagBit g ≠ flagBit f := fun e => h (flagBit_inj e)
    simp [h, this]

end Sys2Proof.Machine
end

