-- ==== Sys2Proof/Laws/Flags.lean ====
section
/-! SUPPORT. The flag computations: what each writes to `st`, and that it changes nothing else. -/

namespace Sys2Proof.Machine

/-! ## Stores and reads in terms of memory only -/

/-- Nothing after a store that keeps memory undoes it. -/
theorem wordStored_of_mem {s t u : State} {a v : Word} (h : WordStored s t a v) (hc : u.cfg = t.cfg)
    (hm : u.mem = t.mem) : WordStored s u a v := by
  have e : ∀ b, u.peekByte b = t.peekByte b := fun b => peekByte_of_mem hc hm b
  exact ⟨fun k => (e _).trans (h.1 k), fun k => (e _).trans (h.2.1 k), fun b h1 h2 => (e _).trans (h.2.2 b h1 h2)⟩

/-- A store depends on the state before it only through memory and the parameters. -/
theorem wordStored_pre {s s' t : State} {a v : Word} (h : WordStored s t a v) (hc : s.cfg = s'.cfg)
    (hm : s.mem = s'.mem) : WordStored s' t a v := by
  have e : ∀ b, s.peekByte b = s'.peekByte b := fun b => peekByte_of_mem hc hm b
  have k : ∀ b, s'.keeps b = s.keeps b := fun b => by simp [State.keeps, hc]
  have p : ∀ b c, samePlace s' b c → samePlace s b c := fun b c q => by simpa [samePlace, hc] using q
  refine ⟨fun q => h.1 (k _ ▸ q), fun q => h.2.1 (k _ ▸ q), fun b h1 h2 => ?_⟩
  rw [← e]
  exact h.2.2 b (fun q => fun r => h1 (k _ ▸ q) (by simpa [samePlace, hc] using r))
    (fun q => fun r => h2 (k _ ▸ q) (by simpa [samePlace, hc] using r))

theorem byteStored_of_mem {s t u : State} {a : Word} {v : Byte} (h : ByteStored s t a v) (hc : u.cfg = t.cfg)
    (hm : u.mem = t.mem) : ByteStored s u a v := by
  have e : ∀ b, u.peekByte b = t.peekByte b := fun b => peekByte_of_mem hc hm b
  exact ⟨fun k => (e _).trans (h.1 k), fun b h1 => (e _).trans (h.2 b h1)⟩

theorem byteStored_pre {s s' t : State} {a : Word} {v : Byte} (h : ByteStored s t a v) (hc : s.cfg = s'.cfg)
    (hm : s.mem = s'.mem) : ByteStored s' t a v := by
  have e : ∀ b, s.peekByte b = s'.peekByte b := fun b => peekByte_of_mem hc hm b
  have k : ∀ b, s'.keeps b = s.keeps b := fun b => by simp [State.keeps, hc]
  refine ⟨fun q => h.1 (k _ ▸ q), fun b h1 => ?_⟩
  rw [← e]
  exact h.2 b (fun q => fun r => h1 (k _ ▸ q) (by simpa [samePlace, hc] using r))

theorem memKept_of_mem {s t : State} (hc : t.cfg = s.cfg) (hm : t.mem = s.mem) : MemKept s t := fun b =>
  peekByte_of_mem hc hm b

theorem holdsWord_of_cfg {s t : State} (h : t.cfg = s.cfg) (a : Word) : t.holdsWord a = s.holdsWord a := by
  simp [State.holdsWord, State.holds, h]

/-! ## Bits of `st` -/

theorem setFlag_bit (s : State) (f : Flag) (b : Bool) (k : Nat) :
    (s.setFlag f b).st.getLsbD k = if k = flagBit f then b else s.st.getLsbD k := by
  simp [withBit_getLsbD _ _ _ _ (flagBit_lt f)]

theorem setFlag_stKeptBut (s : State) (f : Flag) (b : Bool) : StKeptBut [f] s (s.setFlag f b) := by
  intro k hk
  rw [setFlag_bit, if_neg]
  exact fun e => hk f (by simp) e.symm

theorem stKeptBut_trans {fs gs : List Flag} {s t u : State} (h1 : StKeptBut fs s t) (h2 : StKeptBut gs t u) :
    StKeptBut (fs ++ gs) s u := by
  intro k hk
  rw [h2 k (fun f hf => hk f (by simp [hf])), h1 k (fun f hf => hk f (by simp [hf]))]

theorem stKeptBut_of_subset {fs gs : List Flag} {s t : State} (h : StKeptBut fs s t) (hs : fs ⊆ gs) :
    StKeptBut gs s t := fun k hk => h k (fun f hf => hk f (hs hf))

theorem stKeptBut_of_st {s t : State} (h : t.st = s.st) : StKeptBut [] s t := fun k _ => by rw [h]

theorem flag_of_st {s t : State} (f : Flag) (h : t.st = s.st) : t.flag f = s.flag f := by
  simp [State.flag, h]

/-! ## SetLAE, SetCmp and the parity -/

variable (s : State)


@[simp] theorem setLAE_cfg {w : Nat} (v : BitVec w) : (setLAE v s).cfg = s.cfg := by simp [setLAE]
@[simp] theorem setLAE_pc {w : Nat} (v : BitVec w) : (setLAE v s).pc = s.pc := by simp [setLAE]
@[simp] theorem setLAE_wp {w : Nat} (v : BitVec w) : (setLAE v s).wp = s.wp := by simp [setLAE]
@[simp] theorem setLAE_mem {w : Nat} (v : BitVec w) : (setLAE v s).mem = s.mem := by simp [setLAE]
@[simp] theorem setLAE_halted {w : Nat} (v : BitVec w) : (setLAE v s).halted = s.halted := by simp [setLAE]
@[simp] theorem setLAE_inhibit {w : Nat} (v : BitVec w) : (setLAE v s).inhibit = s.inhibit := by simp [setLAE]
@[simp] theorem setLAE_xword {w : Nat} (v : BitVec w) : (setLAE v s).xword = s.xword := by simp [setLAE]
@[simp] theorem setLAE_env {w : Nat} (v : BitVec w) : (setLAE v s).env = s.env := by simp [setLAE]
@[simp] theorem setLAE_during {w : Nat} (v : BitVec w) : (setLAE v s).during = s.during := by simp [setLAE]
@[simp] theorem setLAE_dev {w : Nat} (v : BitVec w) : (setLAE v s).dev = s.dev := by simp [setLAE]
@[simp] theorem setCmp_cfg {w : Nat} (a b : BitVec w) : (setCmp a b s).cfg = s.cfg := by simp [setCmp]
@[simp] theorem setCmp_pc {w : Nat} (a b : BitVec w) : (setCmp a b s).pc = s.pc := by simp [setCmp]
@[simp] theorem setCmp_wp {w : Nat} (a b : BitVec w) : (setCmp a b s).wp = s.wp := by simp [setCmp]
@[simp] theorem setCmp_mem {w : Nat} (a b : BitVec w) : (setCmp a b s).mem = s.mem := by simp [setCmp]
@[simp] theorem setCmp_halted {w : Nat} (a b : BitVec w) : (setCmp a b s).halted = s.halted := by simp [setCmp]
@[simp] theorem setCmp_inhibit {w : Nat} (a b : BitVec w) : (setCmp a b s).inhibit = s.inhibit := by simp [setCmp]
@[simp] theorem setCmp_xword {w : Nat} (a b : BitVec w) : (setCmp a b s).xword = s.xword := by simp [setCmp]
@[simp] theorem setCmp_env {w : Nat} (a b : BitVec w) : (setCmp a b s).env = s.env := by simp [setCmp]
@[simp] theorem setCmp_during {w : Nat} (a b : BitVec w) : (setCmp a b s).during = s.during := by simp [setCmp]
@[simp] theorem setCmp_dev {w : Nat} (a b : BitVec w) : (setCmp a b s).dev = s.dev := by simp [setCmp]
@[simp] theorem setParity_cfg (b : Byte) : (setParity b s).cfg = s.cfg := by simp [setParity]
@[simp] theorem setParity_pc (b : Byte) : (setParity b s).pc = s.pc := by simp [setParity]
@[simp] theorem setParity_wp (b : Byte) : (setParity b s).wp = s.wp := by simp [setParity]
@[simp] theorem setParity_mem (b : Byte) : (setParity b s).mem = s.mem := by simp [setParity]
@[simp] theorem setParity_halted (b : Byte) : (setParity b s).halted = s.halted := by simp [setParity]
@[simp] theorem setParity_inhibit (b : Byte) : (setParity b s).inhibit = s.inhibit := by simp [setParity]
@[simp] theorem setParity_xword (b : Byte) : (setParity b s).xword = s.xword := by simp [setParity]
@[simp] theorem setParity_env (b : Byte) : (setParity b s).env = s.env := by simp [setParity]
@[simp] theorem setParity_during (b : Byte) : (setParity b s).during = s.during := by simp [setParity]
@[simp] theorem setParity_dev (b : Byte) : (setParity b s).dev = s.dev := by simp [setParity]

theorem setLAE_stKeptBut {w : Nat} (v : BitVec w) : StKeptBut [.l, .a, .eq] s (setLAE v s) :=
  stKeptBut_trans (stKeptBut_trans (setFlag_stKeptBut s .l _) (setFlag_stKeptBut _ .a _)) (setFlag_stKeptBut _ .eq _)

theorem setCmp_stKeptBut {w : Nat} (a b : BitVec w) : StKeptBut [.l, .a, .eq] s (setCmp a b s) :=
  stKeptBut_trans (stKeptBut_trans (setFlag_stKeptBut s .l _) (setFlag_stKeptBut _ .a _)) (setFlag_stKeptBut _ .eq _)

theorem setParity_stKeptBut (b : Byte) : StKeptBut [.op] s (setParity b s) := setFlag_stKeptBut s .op _

/-- SetLAE describes its value (R35). -/
theorem setLAE_laeOf {w : Nat} (v : BitVec w) : LaeOf (setLAE v s) v := by
  have hi := BitVec.toInt_eq_msb_cond v
  have hlt := v.isLt
  have hb : (v == 0#w) = decide (v.toNat = 0) := by
    rw [Bool.eq_iff_iff]; simp [BitVec.toNat_eq]
  refine ⟨?_, ?_, ?_⟩ <;> simp only [setLAE, flag_setFlag, bne] <;> (try rw [show (0 : BitVec w) = 0#w from rfl, hb])
    <;>
    rw [Bool.eq_iff_iff]
  · simp [Nat.pos_iff_ne_zero]
  · cases hm : v.msb
    · simp only [hm] at hi
      simp at hi ⊢
      omega
    · simp only [hm] at hi
      simp at hi ⊢
      have : (v.toNat : Int) < ((2 ^ w : Nat) : Int) := by exact_mod_cast hlt
      push_cast at this
      omega
  · simp

/-- SetCmp describes its comparison (R36). -/
theorem setCmp_cmpOf {w : Nat} (a b : BitVec w) : CmpOf (setCmp a b s) a b := by
  refine ⟨?_, ?_, ?_⟩ <;> simp only [setCmp, flag_setFlag] <;> rw [Bool.eq_iff_iff] <;>
    simp [BitVec.ult, BitVec.slt]

/-- The parity computation is the parity of the count of 1 bits (R38). -/
theorem parityOdd_eq (b : Byte) : parityOdd b = decide (onesIn b % 2 = 1) := by
  revert b; decide +kernel

theorem setParity_parityOf (b : Byte) : ParityOf (setParity b s) b := by
  simp [ParityOf, setParity, parityOdd_eq]

/-! ## ArithFlags (R170) -/

variable {w : Nat} (r : ArithOp) (a b : BitVec w) (c : Bool)

@[simp] theorem setHalfCarry_cfg : (setHalfCarry r c s).cfg = s.cfg := by
  unfold setHalfCarry; split <;> (try split) <;> rfl
@[simp] theorem setHalfCarry_pc : (setHalfCarry r c s).pc = s.pc := by
  unfold setHalfCarry; split <;> (try split) <;> rfl
@[simp] theorem setHalfCarry_wp : (setHalfCarry r c s).wp = s.wp := by
  unfold setHalfCarry; split <;> (try split) <;> rfl
@[simp] theorem setHalfCarry_mem : (setHalfCarry r c s).mem = s.mem := by
  unfold setHalfCarry; split <;> (try split) <;> rfl
@[simp] theorem setHalfCarry_halted : (setHalfCarry r c s).halted = s.halted := by
  unfold setHalfCarry; split <;> (try split) <;> rfl
@[simp] theorem setHalfCarry_inhibit : (setHalfCarry r c s).inhibit = s.inhibit := by
  unfold setHalfCarry; split <;> (try split) <;> rfl
@[simp] theorem setHalfCarry_xword : (setHalfCarry r c s).xword = s.xword := by
  unfold setHalfCarry; split <;> (try split) <;> rfl
@[simp] theorem setHalfCarry_env : (setHalfCarry r c s).env = s.env := by
  unfold setHalfCarry; split <;> (try split) <;> rfl
@[simp] theorem setHalfCarry_during : (setHalfCarry r c s).during = s.during := by
  unfold setHalfCarry; split <;> (try split) <;> rfl
@[simp] theorem setHalfCarry_dev : (setHalfCarry r c s).dev = s.dev := by
  unfold setHalfCarry; split <;> (try split) <;> rfl
@[simp] theorem arithFlags_cfg : (arithFlags r a b c s).cfg = s.cfg := by simp [arithFlags]
@[simp] theorem arithFlags_pc : (arithFlags r a b c s).pc = s.pc := by simp [arithFlags]
@[simp] theorem arithFlags_wp : (arithFlags r a b c s).wp = s.wp := by simp [arithFlags]
@[simp] theorem arithFlags_mem : (arithFlags r a b c s).mem = s.mem := by simp [arithFlags]
@[simp] theorem arithFlags_halted : (arithFlags r a b c s).halted = s.halted := by simp [arithFlags]
@[simp] theorem arithFlags_inhibit : (arithFlags r a b c s).inhibit = s.inhibit := by simp [arithFlags]
@[simp] theorem arithFlags_xword : (arithFlags r a b c s).xword = s.xword := by simp [arithFlags]
@[simp] theorem arithFlags_env : (arithFlags r a b c s).env = s.env := by simp [arithFlags]
@[simp] theorem arithFlags_during : (arithFlags r a b c s).during = s.during := by simp [arithFlags]
@[simp] theorem arithFlags_dev : (arithFlags r a b c s).dev = s.dev := by simp [arithFlags]

/-- The AC part writes AC only, and only on the TMS 9940. -/
theorem setHalfCarry_stKeptBut (h : Bool) : StKeptBut (arithFlagList s.cfg.part []) s (setHalfCarry r h s) := by
  unfold setHalfCarry arithFlagList
  cases s.cfg.part
  · exact fun _ _ => rfl
  · exact fun _ _ => rfl
  · by_cases hc : s.cfg.acWriters.contains r = true
    · simp only [hc, if_true]; exact setFlag_stKeptBut s .ac h
    · simp only [hc, if_true]; exact setFlag_stKeptBut s .ac _

theorem setHalfCarry_flag (h : Bool) (f : Flag) (hf : f ≠ .ac) : (setHalfCarry r h s).flag f = s.flag f := by
  have := setHalfCarry_stKeptBut s r h (flagBit f)
  apply this
  intro g hg e
  have hg' : g = .ac := by unfold arithFlagList at hg; split at hg <;> simp_all
  subst hg'
  exact hf (flagBit_inj e).symm

/-- C is the carry out. -/
theorem arithFlags_c : (arithFlags r a b c s).flag .c = addCarry a b c := by
  unfold arithFlags; rw [setHalfCarry_flag _ _ _ _ (by decide)]; simp

/-- OV is the overflow. -/
theorem arithFlags_ov : (arithFlags r a b c s).flag .ov = addOverflow a b c := by
  unfold arithFlags; rw [setHalfCarry_flag _ _ _ _ (by decide)]; simp

/-- AC is the half carry, where the instruction is one of AC_WRITERS. -/
theorem arithFlags_ac (h : s.cfg.part = .tms9940) (hw : s.cfg.acWriters.contains r = true) :
    (arithFlags r a b c s).flag .ac = halfCarry a b c := by
  unfold arithFlags setHalfCarry
  simp only [State.setFlag_cfg, h, hw, if_true, flag_setFlag]

/-- No other bit of `st` changes. -/
theorem arithFlags_stKeptBut :
    StKeptBut (arithFlagList s.cfg.part [.c, .ov]) s (arithFlags r a b c s) := by
  unfold arithFlags
  have h1 := stKeptBut_trans (setFlag_stKeptBut s .c (addCarry a b c)) (setFlag_stKeptBut _ .ov (addOverflow a b c))
  refine stKeptBut_of_subset (stKeptBut_trans h1 (setHalfCarry_stKeptBut _ r _)) ?_
  intro f hf
  unfold arithFlagList at *
  simp only [State.setFlag_cfg] at hf
  by_cases h : s.cfg.part = .tms9940 <;> simp only [h, if_true, if_false] at hf ⊢ <;> simp at hf ⊢ <;> tauto

/-! ## The arithmetic behind the flags -/

/-- Addition of words, as C, OV and AC see it. -/
theorem addResult_false : addResult a b false = a + b := by
  apply BitVec.eq_of_toNat_eq; simp [addResult, BitVec.toNat_add]

theorem addCarry_false : addCarry a b false = decide (2 ^ w ≤ a.toNat + b.toNat) := by
  simp [addCarry]

end Sys2Proof.Machine
end

