-- ==== Sys2Proof/Laws/Cru.lean ====
section
/-! SUPPORT. The CRU operations: what they leave alone (R80 to R85), and the state after an operand or the shift count
is read. -/

namespace Sys2Proof.Machine

variable (s : State)

@[simp] theorem busIn_cfg (a : Nat) : (busIn a s).2.cfg = s.cfg := by
  unfold busIn State.anyBit; simp only []; split <;> simp
@[simp] theorem busOut_cfg (a : Nat) (b : Bool) : (busOut a b s).cfg = s.cfg := by simp [busOut]
@[simp] theorem chipIn_cfg (a : Nat) : (chipIn a s).2.cfg = s.cfg := by
  unfold chipIn State.anyBit; split <;> split <;> simp
@[simp] theorem chipOut_cfg (a : Nat) (b : Bool) : (chipOut a b s).cfg = s.cfg := by
  unfold chipOut; simp only []; split <;> (try split) <;> (try split) <;> simp
@[simp] theorem busIn_pc (a : Nat) : (busIn a s).2.pc = s.pc := by
  unfold busIn State.anyBit; simp only []; split <;> simp
@[simp] theorem busOut_pc (a : Nat) (b : Bool) : (busOut a b s).pc = s.pc := by simp [busOut]
@[simp] theorem chipIn_pc (a : Nat) : (chipIn a s).2.pc = s.pc := by
  unfold chipIn State.anyBit; split <;> split <;> simp
@[simp] theorem chipOut_pc (a : Nat) (b : Bool) : (chipOut a b s).pc = s.pc := by
  unfold chipOut; simp only []; split <;> (try split) <;> (try split) <;> simp
@[simp] theorem busIn_wp (a : Nat) : (busIn a s).2.wp = s.wp := by
  unfold busIn State.anyBit; simp only []; split <;> simp
@[simp] theorem busOut_wp (a : Nat) (b : Bool) : (busOut a b s).wp = s.wp := by simp [busOut]
@[simp] theorem chipIn_wp (a : Nat) : (chipIn a s).2.wp = s.wp := by
  unfold chipIn State.anyBit; split <;> split <;> simp
@[simp] theorem chipOut_wp (a : Nat) (b : Bool) : (chipOut a b s).wp = s.wp := by
  unfold chipOut; simp only []; split <;> (try split) <;> (try split) <;> simp
@[simp] theorem busIn_st (a : Nat) : (busIn a s).2.st = s.st := by
  unfold busIn State.anyBit; simp only []; split <;> simp
@[simp] theorem busOut_st (a : Nat) (b : Bool) : (busOut a b s).st = s.st := by simp [busOut]
@[simp] theorem chipIn_st (a : Nat) : (chipIn a s).2.st = s.st := by
  unfold chipIn State.anyBit; split <;> split <;> simp
@[simp] theorem chipOut_st (a : Nat) (b : Bool) : (chipOut a b s).st = s.st := by
  unfold chipOut; simp only []; split <;> (try split) <;> (try split) <;> simp
@[simp] theorem busIn_halted (a : Nat) : (busIn a s).2.halted = s.halted := by
  unfold busIn State.anyBit; simp only []; split <;> simp
@[simp] theorem busOut_halted (a : Nat) (b : Bool) : (busOut a b s).halted = s.halted := by simp [busOut]
@[simp] theorem chipIn_halted (a : Nat) : (chipIn a s).2.halted = s.halted := by
  unfold chipIn State.anyBit; split <;> split <;> simp
@[simp] theorem chipOut_halted (a : Nat) (b : Bool) : (chipOut a b s).halted = s.halted := by
  unfold chipOut; simp only []; split <;> (try split) <;> (try split) <;> simp
@[simp] theorem busIn_inhibit (a : Nat) : (busIn a s).2.inhibit = s.inhibit := by
  unfold busIn State.anyBit; simp only []; split <;> simp
@[simp] theorem busOut_inhibit (a : Nat) (b : Bool) : (busOut a b s).inhibit = s.inhibit := by simp [busOut]
@[simp] theorem chipIn_inhibit (a : Nat) : (chipIn a s).2.inhibit = s.inhibit := by
  unfold chipIn State.anyBit; split <;> split <;> simp
@[simp] theorem chipOut_inhibit (a : Nat) (b : Bool) : (chipOut a b s).inhibit = s.inhibit := by
  unfold chipOut; simp only []; split <;> (try split) <;> (try split) <;> simp
@[simp] theorem busIn_xword (a : Nat) : (busIn a s).2.xword = s.xword := by
  unfold busIn State.anyBit; simp only []; split <;> simp
@[simp] theorem busOut_xword (a : Nat) (b : Bool) : (busOut a b s).xword = s.xword := by simp [busOut]
@[simp] theorem chipIn_xword (a : Nat) : (chipIn a s).2.xword = s.xword := by
  unfold chipIn State.anyBit; split <;> split <;> simp
@[simp] theorem chipOut_xword (a : Nat) (b : Bool) : (chipOut a b s).xword = s.xword := by
  unfold chipOut; simp only []; split <;> (try split) <;> (try split) <;> simp
@[simp] theorem busIn_env (a : Nat) : (busIn a s).2.env = s.env := by
  unfold busIn State.anyBit; simp only []; split <;> simp
@[simp] theorem busOut_env (a : Nat) (b : Bool) : (busOut a b s).env = s.env := by simp [busOut]
@[simp] theorem chipIn_env (a : Nat) : (chipIn a s).2.env = s.env := by
  unfold chipIn State.anyBit; split <;> split <;> simp
@[simp] theorem chipOut_env (a : Nat) (b : Bool) : (chipOut a b s).env = s.env := by
  unfold chipOut; simp only []; split <;> (try split) <;> (try split) <;> simp
@[simp] theorem busIn_during (a : Nat) : (busIn a s).2.during = s.during := by
  unfold busIn State.anyBit; simp only []; split <;> simp
@[simp] theorem busOut_during (a : Nat) (b : Bool) : (busOut a b s).during = s.during := by simp [busOut]
@[simp] theorem chipIn_during (a : Nat) : (chipIn a s).2.during = s.during := by
  unfold chipIn State.anyBit; split <;> split <;> simp
@[simp] theorem chipOut_during (a : Nat) (b : Bool) : (chipOut a b s).during = s.during := by
  unfold chipOut; simp only []; split <;> (try split) <;> (try split) <;> simp
@[simp] theorem busIn_mem (a : Nat) : (busIn a s).2.mem = s.mem := by
  unfold busIn State.anyBit; simp only []; split <;> simp
@[simp] theorem busOut_mem (a : Nat) (b : Bool) : (busOut a b s).mem = s.mem := by simp [busOut]
@[simp] theorem chipIn_mem (a : Nat) : (chipIn a s).2.mem = s.mem := by
  unfold chipIn State.anyBit; split <;> split <;> simp
@[simp] theorem chipOut_mem (a : Nat) (b : Bool) : (chipOut a b s).mem = s.mem := by
  unfold chipOut; simp only []; split <;> (try split) <;> (try split) <;> simp

@[simp] theorem cruIn_cfg (a : Nat) : (cruIn a s).2.cfg = s.cfg := by
  unfold cruIn; split <;> simp
@[simp] theorem cruOut_cfg (a : Nat) (b : Bool) : (cruOut a b s).cfg = s.cfg := by
  unfold cruOut; split <;> simp
@[simp] theorem extCtl_cfg (code : BitVec 3) : (extCtl code s).cfg = s.cfg := by simp [extCtl]
@[simp] theorem cruIn_pc (a : Nat) : (cruIn a s).2.pc = s.pc := by
  unfold cruIn; split <;> simp
@[simp] theorem cruOut_pc (a : Nat) (b : Bool) : (cruOut a b s).pc = s.pc := by
  unfold cruOut; split <;> simp
@[simp] theorem extCtl_pc (code : BitVec 3) : (extCtl code s).pc = s.pc := by simp [extCtl]
@[simp] theorem cruIn_wp (a : Nat) : (cruIn a s).2.wp = s.wp := by
  unfold cruIn; split <;> simp
@[simp] theorem cruOut_wp (a : Nat) (b : Bool) : (cruOut a b s).wp = s.wp := by
  unfold cruOut; split <;> simp
@[simp] theorem extCtl_wp (code : BitVec 3) : (extCtl code s).wp = s.wp := by simp [extCtl]
@[simp] theorem cruIn_st (a : Nat) : (cruIn a s).2.st = s.st := by
  unfold cruIn; split <;> simp
@[simp] theorem cruOut_st (a : Nat) (b : Bool) : (cruOut a b s).st = s.st := by
  unfold cruOut; split <;> simp
@[simp] theorem extCtl_st (code : BitVec 3) : (extCtl code s).st = s.st := by simp [extCtl]
@[simp] theorem cruIn_halted (a : Nat) : (cruIn a s).2.halted = s.halted := by
  unfold cruIn; split <;> simp
@[simp] theorem cruOut_halted (a : Nat) (b : Bool) : (cruOut a b s).halted = s.halted := by
  unfold cruOut; split <;> simp
@[simp] theorem extCtl_halted (code : BitVec 3) : (extCtl code s).halted = s.halted := by simp [extCtl]
@[simp] theorem cruIn_inhibit (a : Nat) : (cruIn a s).2.inhibit = s.inhibit := by
  unfold cruIn; split <;> simp
@[simp] theorem cruOut_inhibit (a : Nat) (b : Bool) : (cruOut a b s).inhibit = s.inhibit := by
  unfold cruOut; split <;> simp
@[simp] theorem extCtl_inhibit (code : BitVec 3) : (extCtl code s).inhibit = s.inhibit := by simp [extCtl]
@[simp] theorem cruIn_xword (a : Nat) : (cruIn a s).2.xword = s.xword := by
  unfold cruIn; split <;> simp
@[simp] theorem cruOut_xword (a : Nat) (b : Bool) : (cruOut a b s).xword = s.xword := by
  unfold cruOut; split <;> simp
@[simp] theorem extCtl_xword (code : BitVec 3) : (extCtl code s).xword = s.xword := by simp [extCtl]
@[simp] theorem cruIn_env (a : Nat) : (cruIn a s).2.env = s.env := by
  unfold cruIn; split <;> simp
@[simp] theorem cruOut_env (a : Nat) (b : Bool) : (cruOut a b s).env = s.env := by
  unfold cruOut; split <;> simp
@[simp] theorem cruIn_during (a : Nat) : (cruIn a s).2.during = s.during.tail := by
  unfold cruIn; split <;> simp
@[simp] theorem cruOut_during (a : Nat) (b : Bool) : (cruOut a b s).during = s.during.tail := by
  unfold cruOut; split <;> simp
@[simp] theorem extCtl_during (code : BitVec 3) : (extCtl code s).during = s.during.tail := by simp [extCtl]
@[simp] theorem cruIn_mem (a : Nat) (h : s.during = []) : (cruIn a s).2.mem = s.mem := by
  unfold cruIn; split <;> simp [s.busCycle_quiet h]
@[simp] theorem cruOut_mem (a : Nat) (b : Bool) (h : s.during = []) : (cruOut a b s).mem = s.mem := by
  unfold cruOut; split <;> simp [s.busCycle_quiet h]
@[simp] theorem extCtl_mem (code : BitVec 3) (h : s.during = []) : (extCtl code s).mem = s.mem := by
  simp [extCtl, s.busCycle_quiet h]

/-- With no reaction of the system (D28's default) the cycle of a code is the event and the 0 on S0. -/
theorem extCtl_none (code : BitVec 3) (h : s.during = []) (hr : ∀ r ∈ s.cfg.extCtl, r.code ≠ code) :
    extCtl code s = (s.emit (.extCtl code)).seeAddr 0 := by
  rw [extCtl, s.busCycle_quiet h, State.react_none]
  simpa using hr
/-- With a reaction of the system, what it says is done after the event and the 0 on S0. -/
theorem extCtl_first (r : ExtReaction) (rest : List ExtReaction) (h : s.during = []) (hr : s.cfg.extCtl = r :: rest) :
    extCtl r.code s = (r.now.foldl applyPlatform ((s.emit (.extCtl r.code)).seeAddr 0)).setEnv
      (joinEnv r.later s.env) := by
  rw [extCtl, s.busCycle_quiet h, State.react_first _ r rest (by simpa using hr)]
  simp

theorem cruIn_wf (a : Nat) (h : Memory.wf s.mem = true) : Memory.wf (cruIn a s).2.mem = true := by
  unfold cruIn; split <;> simpa using s.busCycle_wf h
theorem cruOut_wf (a : Nat) (b : Bool) (h : Memory.wf s.mem = true) : Memory.wf (cruOut a b s).mem = true := by
  unfold cruOut; split <;> simpa using s.busCycle_wf h

/-- A CRU cycle is preceded by what the next batch of `during` holds (R376, U13). -/
theorem cruIn_after (a : Nat) (batch : List MidEvent) (later : List (List MidEvent)) (h : s.during = batch :: later) :
    cruIn a s = cruIn a ((batch.foldl applyMid (s.setDuring later)).setDuring ([] :: later)) := by
  have e : ((batch.foldl applyMid (s.setDuring later)).setDuring ([] :: later)).busCycle =
      batch.foldl applyMid (s.setDuring later) := by
    have d : (batch.foldl applyMid (s.setDuring later)).during = later := by simp
    unfold State.busCycle
    simp only [State.setDuring_during, List.foldl_nil]
    generalize batch.foldl applyMid (s.setDuring later) = t at *
    cases t
    simp only at d
    subst d
    rfl
  have e2 : s.busCycle = batch.foldl applyMid (s.setDuring later) := by simp [State.busCycle, h]
  unfold cruIn
  simp only [e, e2, State.setDuring_cfg, applyMids_cfg]

/-- One more bit sent. -/
theorem cruSend_succ (base n : Nat) (v : Word) :
    cruSend base (n + 1) v s =
      cruOut (cruAddr (cruSend base n v s).cfg.part base n) (v.getLsbD n) (cruSend base n v s) := by
  simp [cruSend, List.range_succ]

/-- One more bit received. -/
theorem cruReceive_succ (base n : Nat) :
    cruReceive base (n + 1) s =
      (withBit (cruReceive base n s).1 n
          (cruIn (cruAddr (cruReceive base n s).2.cfg.part base n) (cruReceive base n s).2).1,
        (cruIn (cruAddr (cruReceive base n s).2.cfg.part base n) (cruReceive base n s).2).2) := by
  simp [cruReceive, List.range_succ]

@[simp] theorem cruSend_cfg (base n : Nat) (v : Word) : (cruSend base n v s).cfg = s.cfg := by
  induction n with
  | zero => rfl
  | succ n ih => rw [cruSend_succ, cruOut_cfg, ih]
@[simp] theorem cruReceive_cfg (base n : Nat) : (cruReceive base n s).2.cfg = s.cfg := by
  induction n with
  | zero => rfl
  | succ n ih => rw [cruReceive_succ]; simp only [cruIn_cfg, ih]
@[simp] theorem cruSend_pc (base n : Nat) (v : Word) : (cruSend base n v s).pc = s.pc := by
  induction n with
  | zero => rfl
  | succ n ih => rw [cruSend_succ, cruOut_pc, ih]
@[simp] theorem cruReceive_pc (base n : Nat) : (cruReceive base n s).2.pc = s.pc := by
  induction n with
  | zero => rfl
  | succ n ih => rw [cruReceive_succ]; simp only [cruIn_pc, ih]
@[simp] theorem cruSend_wp (base n : Nat) (v : Word) : (cruSend base n v s).wp = s.wp := by
  induction n with
  | zero => rfl
  | succ n ih => rw [cruSend_succ, cruOut_wp, ih]
@[simp] theorem cruReceive_wp (base n : Nat) : (cruReceive base n s).2.wp = s.wp := by
  induction n with
  | zero => rfl
  | succ n ih => rw [cruReceive_succ]; simp only [cruIn_wp, ih]
@[simp] theorem cruSend_st (base n : Nat) (v : Word) : (cruSend base n v s).st = s.st := by
  induction n with
  | zero => rfl
  | succ n ih => rw [cruSend_succ, cruOut_st, ih]
@[simp] theorem cruReceive_st (base n : Nat) : (cruReceive base n s).2.st = s.st := by
  induction n with
  | zero => rfl
  | succ n ih => rw [cruReceive_succ]; simp only [cruIn_st, ih]
@[simp] theorem cruSend_halted (base n : Nat) (v : Word) : (cruSend base n v s).halted = s.halted := by
  induction n with
  | zero => rfl
  | succ n ih => rw [cruSend_succ, cruOut_halted, ih]
@[simp] theorem cruReceive_halted (base n : Nat) : (cruReceive base n s).2.halted = s.halted := by
  induction n with
  | zero => rfl
  | succ n ih => rw [cruReceive_succ]; simp only [cruIn_halted, ih]
@[simp] theorem cruSend_inhibit (base n : Nat) (v : Word) : (cruSend base n v s).inhibit = s.inhibit := by
  induction n with
  | zero => rfl
  | succ n ih => rw [cruSend_succ, cruOut_inhibit, ih]
@[simp] theorem cruReceive_inhibit (base n : Nat) : (cruReceive base n s).2.inhibit = s.inhibit := by
  induction n with
  | zero => rfl
  | succ n ih => rw [cruReceive_succ]; simp only [cruIn_inhibit, ih]
@[simp] theorem cruSend_xword (base n : Nat) (v : Word) : (cruSend base n v s).xword = s.xword := by
  induction n with
  | zero => rfl
  | succ n ih => rw [cruSend_succ, cruOut_xword, ih]
@[simp] theorem cruReceive_xword (base n : Nat) : (cruReceive base n s).2.xword = s.xword := by
  induction n with
  | zero => rfl
  | succ n ih => rw [cruReceive_succ]; simp only [cruIn_xword, ih]
@[simp] theorem cruSend_env (base n : Nat) (v : Word) : (cruSend base n v s).env = s.env := by
  induction n with
  | zero => rfl
  | succ n ih => rw [cruSend_succ, cruOut_env, ih]
@[simp] theorem cruReceive_env (base n : Nat) : (cruReceive base n s).2.env = s.env := by
  induction n with
  | zero => rfl
  | succ n ih => rw [cruReceive_succ]; simp only [cruIn_env, ih]

@[simp] theorem cruSend_quiet (base n : Nat) (v : Word) (h : s.during = []) : (cruSend base n v s).during = [] := by
  induction n with
  | zero => exact h
  | succ n ih => rw [cruSend_succ, cruOut_during, ih]; rfl
@[simp] theorem cruReceive_quiet (base n : Nat) (h : s.during = []) : (cruReceive base n s).2.during = [] := by
  induction n with
  | zero => exact h
  | succ n ih => rw [cruReceive_succ]; simp only [cruIn_during, ih, List.tail_nil]
@[simp] theorem cruSend_mem (base n : Nat) (v : Word) (h : s.during = []) : (cruSend base n v s).mem = s.mem := by
  induction n with
  | zero => rfl
  | succ n ih => rw [cruSend_succ, cruOut_mem _ _ _ (cruSend_quiet s base n v h), ih]
@[simp] theorem cruReceive_mem (base n : Nat) (h : s.during = []) : (cruReceive base n s).2.mem = s.mem := by
  induction n with
  | zero => rfl
  | succ n ih => rw [cruReceive_succ]; simp only [cruIn_mem _ _ (cruReceive_quiet s base n h), ih]

/-- No bit above the length comes in. -/
theorem cruReceive_high (base n k : Nat) (hn : n ≤ 16) (hk : n ≤ k) : (cruReceive base n s).1.getLsbD k = false := by
  induction n with
  | zero => simp [cruReceive]
  | succ n ih =>
    rw [cruReceive_succ]
    simp only []
    rw [withBit_getLsbD _ _ _ _ (by omega), if_neg (by omega)]
    exact ih (by omega) (by omega)

@[simp] theorem shiftCount_cfg (cnt : BitVec 4) : (shiftCount cnt s).2.cfg = s.cfg := by
  unfold shiftCount; split <;> simp
@[simp] theorem shiftCount_pc (cnt : BitVec 4) : (shiftCount cnt s).2.pc = s.pc := by
  unfold shiftCount; split <;> simp
@[simp] theorem shiftCount_wp (cnt : BitVec 4) : (shiftCount cnt s).2.wp = s.wp := by
  unfold shiftCount; split <;> simp
@[simp] theorem shiftCount_st (cnt : BitVec 4) : (shiftCount cnt s).2.st = s.st := by
  unfold shiftCount; split <;> simp
@[simp] theorem shiftCount_halted (cnt : BitVec 4) : (shiftCount cnt s).2.halted = s.halted := by
  unfold shiftCount; split <;> simp
@[simp] theorem shiftCount_inhibit (cnt : BitVec 4) : (shiftCount cnt s).2.inhibit = s.inhibit := by
  unfold shiftCount; split <;> simp
@[simp] theorem shiftCount_xword (cnt : BitVec 4) : (shiftCount cnt s).2.xword = s.xword := by
  unfold shiftCount; split <;> simp
@[simp] theorem shiftCount_env (cnt : BitVec 4) : (shiftCount cnt s).2.env = s.env := by
  unfold shiftCount; split <;> simp
@[simp] theorem shiftCount_quiet (cnt : BitVec 4) (h : s.during = []) : (shiftCount cnt s).2.during = [] := by
  unfold shiftCount; split <;> simp [h]
@[simp] theorem shiftCount_mem (cnt : BitVec 4) (h : s.during = []) : (shiftCount cnt s).2.mem = s.mem := by
  unfold shiftCount; split <;> simp [h]

end Sys2Proof.Machine
end

