-- ==== Sys2Proof/Laws/PerInstr.lean ====
section
/-! SUPPORT. Per instruction: its instruction word is in its row of the opcode table (R103, R120), which the rows below
repeat from spec/opcode_table.json. -/

namespace Sys2Proof.Laws

/-- A row of the opcode table (R120). -/
structure Row where
  mask : Word
  value : Word
deriving DecidableEq, Repr

/-- The row of each instruction. -/
def rowOf : Instr → Row
  | .li _ => ⟨0xFFF0, 0x0200⟩
  | .ai _ => ⟨0xFFF0, 0x0220⟩
  | .andi _ => ⟨0xFFF0, 0x0240⟩
  | .ori _ => ⟨0xFFF0, 0x0260⟩
  | .ci _ => ⟨0xFFF0, 0x0280⟩
  | .stwp _ => ⟨0xFFF0, 0x02A0⟩
  | .stst _ => ⟨0xFFF0, 0x02C0⟩
  | .lwpi => ⟨0xFFFF, 0x02E0⟩
  | .limi => ⟨0xFFFF, 0x0300⟩
  | .idle => ⟨0xFFFF, 0x0340⟩
  | .rset => ⟨0xFFFF, 0x0360⟩
  | .rtwp => ⟨0xFFFF, 0x0380⟩
  | .ckon => ⟨0xFFFF, 0x03A0⟩
  | .ckof => ⟨0xFFFF, 0x03C0⟩
  | .lrex => ⟨0xFFFF, 0x03E0⟩
  | .blwp _ => ⟨0xFFC0, 0x0400⟩
  | .b _ => ⟨0xFFC0, 0x0440⟩
  | .x _ => ⟨0xFFC0, 0x0480⟩
  | .clr _ => ⟨0xFFC0, 0x04C0⟩
  | .neg _ => ⟨0xFFC0, 0x0500⟩
  | .inv _ => ⟨0xFFC0, 0x0540⟩
  | .inc _ => ⟨0xFFC0, 0x0580⟩
  | .inct _ => ⟨0xFFC0, 0x05C0⟩
  | .dec _ => ⟨0xFFC0, 0x0600⟩
  | .dect _ => ⟨0xFFC0, 0x0640⟩
  | .bl _ => ⟨0xFFC0, 0x0680⟩
  | .swpb _ => ⟨0xFFC0, 0x06C0⟩
  | .seto _ => ⟨0xFFC0, 0x0700⟩
  | .abs _ => ⟨0xFFC0, 0x0740⟩
  | .sra _ _ => ⟨0xFF00, 0x0800⟩
  | .srl _ _ => ⟨0xFF00, 0x0900⟩
  | .sla _ _ => ⟨0xFF00, 0x0A00⟩
  | .src _ _ => ⟨0xFF00, 0x0B00⟩
  | .jmp _ => ⟨0xFF00, 0x1000⟩
  | .jlt _ => ⟨0xFF00, 0x1100⟩
  | .jle _ => ⟨0xFF00, 0x1200⟩
  | .jeq _ => ⟨0xFF00, 0x1300⟩
  | .jhe _ => ⟨0xFF00, 0x1400⟩
  | .jgt _ => ⟨0xFF00, 0x1500⟩
  | .jne _ => ⟨0xFF00, 0x1600⟩
  | .jnc _ => ⟨0xFF00, 0x1700⟩
  | .joc _ => ⟨0xFF00, 0x1800⟩
  | .jno _ => ⟨0xFF00, 0x1900⟩
  | .jl _ => ⟨0xFF00, 0x1A00⟩
  | .jh _ => ⟨0xFF00, 0x1B00⟩
  | .jop _ => ⟨0xFF00, 0x1C00⟩
  | .sbo _ => ⟨0xFF00, 0x1D00⟩
  | .sbz _ => ⟨0xFF00, 0x1E00⟩
  | .tb _ => ⟨0xFF00, 0x1F00⟩
  | .coc _ _ => ⟨0xFC00, 0x2000⟩
  | .czc _ _ => ⟨0xFC00, 0x2400⟩
  | .xor _ _ => ⟨0xFC00, 0x2800⟩
  | .xop _ _ => ⟨0xFC00, 0x2C00⟩
  | .ldcr _ _ => ⟨0xFC00, 0x3000⟩
  | .stcr _ _ => ⟨0xFC00, 0x3400⟩
  | .mpy _ _ => ⟨0xFC00, 0x3800⟩
  | .div _ _ => ⟨0xFC00, 0x3C00⟩
  | .szc _ _ => ⟨0xF000, 0x4000⟩
  | .szcb _ _ => ⟨0xF000, 0x5000⟩
  | .s _ _ => ⟨0xF000, 0x6000⟩
  | .sb _ _ => ⟨0xF000, 0x7000⟩
  | .c _ _ => ⟨0xF000, 0x8000⟩
  | .cb _ _ => ⟨0xF000, 0x9000⟩
  | .a _ _ => ⟨0xF000, 0xA000⟩
  | .ab _ _ => ⟨0xF000, 0xB000⟩
  | .mov _ _ => ⟨0xF000, 0xC000⟩
  | .movb _ _ => ⟨0xF000, 0xD000⟩
  | .soc _ _ => ⟨0xF000, 0xE000⟩
  | .socb _ _ => ⟨0xF000, 0xF000⟩
  | .dca _ => ⟨0xFFC0, 0x2C00⟩
  | .dcs _ => ⟨0xFFC0, 0x2C40⟩
  | .liim _ _ => ⟨0xFF80, 0x2C80⟩

/-- The word of the instruction is one of the row's words. -/
def RowMatch.Statement (i : Instr) : Prop := encode i &&& (rowOf i).mask = (rowOf i).value

/-- A word whose high part is `p` is in the row that fixes exactly that part. -/
theorem head_row {n m : Nat} (p : BitVec n) (x : BitVec m) :
    (p ++ x) &&& (BitVec.allOnes n ++ 0#m) = p ++ 0#m := by
  apply BitVec.eq_of_getLsbD_eq
  intro i hi
  simp only [BitVec.getLsbD_and, BitVec.getLsbD_append]
  by_cases h : i < m
  · simp [h]
  · have : i - m < n := by omega
    simp [h, this]

/-- The same where two fields follow the fixed part. -/
theorem head_row2 {n m k : Nat} (p : BitVec n) (x : BitVec m) (y : BitVec k) :
    (p ++ x ++ y) &&& (BitVec.allOnes n ++ 0#m ++ 0#k) = p ++ 0#m ++ 0#k := by
  apply BitVec.eq_of_getLsbD_eq
  intro i hi
  simp only [BitVec.getLsbD_and, BitVec.getLsbD_append]
  by_cases h : i < k
  · simp [h]
  · by_cases h2 : i - k < m
    · simp [h, h2]
    · have : i - k - m < n := by omega
      simp [h, h2, this]

theorem RowMatch.li (w : Reg) : RowMatch.Statement (.li w) := head_row 0x20#12 w
theorem RowMatch.ai (w : Reg) : RowMatch.Statement (.ai w) := head_row 0x22#12 w
theorem RowMatch.andi (w : Reg) : RowMatch.Statement (.andi w) := head_row 0x24#12 w
theorem RowMatch.ori (w : Reg) : RowMatch.Statement (.ori w) := head_row 0x26#12 w
theorem RowMatch.ci (w : Reg) : RowMatch.Statement (.ci w) := head_row 0x28#12 w
theorem RowMatch.stwp (w : Reg) : RowMatch.Statement (.stwp w) := head_row 0x2A#12 w
theorem RowMatch.stst (w : Reg) : RowMatch.Statement (.stst w) := head_row 0x2C#12 w
theorem RowMatch.lwpi : RowMatch.Statement (.lwpi) := rfl
theorem RowMatch.limi : RowMatch.Statement (.limi) := rfl
theorem RowMatch.idle : RowMatch.Statement (.idle) := rfl
theorem RowMatch.rset : RowMatch.Statement (.rset) := rfl
theorem RowMatch.rtwp : RowMatch.Statement (.rtwp) := rfl
theorem RowMatch.ckon : RowMatch.Statement (.ckon) := rfl
theorem RowMatch.ckof : RowMatch.Statement (.ckof) := rfl
theorem RowMatch.lrex : RowMatch.Statement (.lrex) := rfl
theorem RowMatch.blwp (src : Operand) : RowMatch.Statement (.blwp src) := head_row 0x10#10 src.code
theorem RowMatch.b (src : Operand) : RowMatch.Statement (.b src) := head_row 0x11#10 src.code
theorem RowMatch.x (src : Operand) : RowMatch.Statement (.x src) := head_row 0x12#10 src.code
theorem RowMatch.clr (dst : Operand) : RowMatch.Statement (.clr dst) := head_row 0x13#10 dst.code
theorem RowMatch.neg (dst : Operand) : RowMatch.Statement (.neg dst) := head_row 0x14#10 dst.code
theorem RowMatch.inv (dst : Operand) : RowMatch.Statement (.inv dst) := head_row 0x15#10 dst.code
theorem RowMatch.inc (dst : Operand) : RowMatch.Statement (.inc dst) := head_row 0x16#10 dst.code
theorem RowMatch.inct (dst : Operand) : RowMatch.Statement (.inct dst) := head_row 0x17#10 dst.code
theorem RowMatch.dec (dst : Operand) : RowMatch.Statement (.dec dst) := head_row 0x18#10 dst.code
theorem RowMatch.dect (dst : Operand) : RowMatch.Statement (.dect dst) := head_row 0x19#10 dst.code
theorem RowMatch.bl (src : Operand) : RowMatch.Statement (.bl src) := head_row 0x1A#10 src.code
theorem RowMatch.swpb (dst : Operand) : RowMatch.Statement (.swpb dst) := head_row 0x1B#10 dst.code
theorem RowMatch.seto (dst : Operand) : RowMatch.Statement (.seto dst) := head_row 0x1C#10 dst.code
theorem RowMatch.abs (dst : Operand) : RowMatch.Statement (.abs dst) := head_row 0x1D#10 dst.code
theorem RowMatch.sra (cnt : BitVec 4) (w : Reg) : RowMatch.Statement (.sra cnt w) := head_row2 0x8#8 cnt w
theorem RowMatch.srl (cnt : BitVec 4) (w : Reg) : RowMatch.Statement (.srl cnt w) := head_row2 0x9#8 cnt w
theorem RowMatch.sla (cnt : BitVec 4) (w : Reg) : RowMatch.Statement (.sla cnt w) := head_row2 0xA#8 cnt w
theorem RowMatch.src (cnt : BitVec 4) (w : Reg) : RowMatch.Statement (.src cnt w) := head_row2 0xB#8 cnt w
theorem RowMatch.jmp (disp : BitVec 8) : RowMatch.Statement (.jmp disp) := head_row 0x10#8 disp
theorem RowMatch.jlt (disp : BitVec 8) : RowMatch.Statement (.jlt disp) := head_row 0x11#8 disp
theorem RowMatch.jle (disp : BitVec 8) : RowMatch.Statement (.jle disp) := head_row 0x12#8 disp
theorem RowMatch.jeq (disp : BitVec 8) : RowMatch.Statement (.jeq disp) := head_row 0x13#8 disp
theorem RowMatch.jhe (disp : BitVec 8) : RowMatch.Statement (.jhe disp) := head_row 0x14#8 disp
theorem RowMatch.jgt (disp : BitVec 8) : RowMatch.Statement (.jgt disp) := head_row 0x15#8 disp
theorem RowMatch.jne (disp : BitVec 8) : RowMatch.Statement (.jne disp) := head_row 0x16#8 disp
theorem RowMatch.jnc (disp : BitVec 8) : RowMatch.Statement (.jnc disp) := head_row 0x17#8 disp
theorem RowMatch.joc (disp : BitVec 8) : RowMatch.Statement (.joc disp) := head_row 0x18#8 disp
theorem RowMatch.jno (disp : BitVec 8) : RowMatch.Statement (.jno disp) := head_row 0x19#8 disp
theorem RowMatch.jl (disp : BitVec 8) : RowMatch.Statement (.jl disp) := head_row 0x1A#8 disp
theorem RowMatch.jh (disp : BitVec 8) : RowMatch.Statement (.jh disp) := head_row 0x1B#8 disp
theorem RowMatch.jop (disp : BitVec 8) : RowMatch.Statement (.jop disp) := head_row 0x1C#8 disp
theorem RowMatch.sbo (disp : BitVec 8) : RowMatch.Statement (.sbo disp) := head_row 0x1D#8 disp
theorem RowMatch.sbz (disp : BitVec 8) : RowMatch.Statement (.sbz disp) := head_row 0x1E#8 disp
theorem RowMatch.tb (disp : BitVec 8) : RowMatch.Statement (.tb disp) := head_row 0x1F#8 disp
theorem RowMatch.coc (w : Reg) (src : Operand) : RowMatch.Statement (.coc w src) := head_row2 0x8#6 w src.code
theorem RowMatch.czc (w : Reg) (src : Operand) : RowMatch.Statement (.czc w src) := head_row2 0x9#6 w src.code
theorem RowMatch.xor (w : Reg) (src : Operand) : RowMatch.Statement (.xor w src) := head_row2 0xA#6 w src.code
theorem RowMatch.xop (n : BitVec 4) (src : Operand) : RowMatch.Statement (.xop n src) := head_row2 0xB#6 n src.code
theorem RowMatch.ldcr (cnt : BitVec 4) (src : Operand) : RowMatch.Statement (.ldcr cnt src) :=
  head_row2 0xC#6 cnt src.code
theorem RowMatch.stcr (cnt : BitVec 4) (dst : Operand) : RowMatch.Statement (.stcr cnt dst) :=
  head_row2 0xD#6 cnt dst.code
theorem RowMatch.mpy (w : Reg) (src : Operand) : RowMatch.Statement (.mpy w src) := head_row2 0xE#6 w src.code
theorem RowMatch.div (w : Reg) (src : Operand) : RowMatch.Statement (.div w src) := head_row2 0xF#6 w src.code
theorem RowMatch.szc (src : Operand) (dst : Operand) : RowMatch.Statement (.szc src dst) :=
  head_row2 0x4#4 dst.code src.code
theorem RowMatch.szcb (src : Operand) (dst : Operand) : RowMatch.Statement (.szcb src dst) :=
  head_row2 0x5#4 dst.code src.code
theorem RowMatch.s (src : Operand) (dst : Operand) : RowMatch.Statement (.s src dst) :=
  head_row2 0x6#4 dst.code src.code
theorem RowMatch.sb (src : Operand) (dst : Operand) : RowMatch.Statement (.sb src dst) :=
  head_row2 0x7#4 dst.code src.code
theorem RowMatch.c (src : Operand) (dst : Operand) : RowMatch.Statement (.c src dst) :=
  head_row2 0x8#4 dst.code src.code
theorem RowMatch.cb (src : Operand) (dst : Operand) : RowMatch.Statement (.cb src dst) :=
  head_row2 0x9#4 dst.code src.code
theorem RowMatch.a (src : Operand) (dst : Operand) : RowMatch.Statement (.a src dst) :=
  head_row2 0xA#4 dst.code src.code
theorem RowMatch.ab (src : Operand) (dst : Operand) : RowMatch.Statement (.ab src dst) :=
  head_row2 0xB#4 dst.code src.code
theorem RowMatch.mov (src : Operand) (dst : Operand) : RowMatch.Statement (.mov src dst) :=
  head_row2 0xC#4 dst.code src.code
theorem RowMatch.movb (src : Operand) (dst : Operand) : RowMatch.Statement (.movb src dst) :=
  head_row2 0xD#4 dst.code src.code
theorem RowMatch.soc (src : Operand) (dst : Operand) : RowMatch.Statement (.soc src dst) :=
  head_row2 0xE#4 dst.code src.code
theorem RowMatch.socb (src : Operand) (dst : Operand) : RowMatch.Statement (.socb src dst) :=
  head_row2 0xF#4 dst.code src.code
theorem RowMatch.dca (dst : Operand) : RowMatch.Statement (.dca dst) := head_row 0xB0#10 dst.code
theorem RowMatch.dcs (dst : Operand) : RowMatch.Statement (.dcs dst) := head_row 0xB1#10 dst.code
theorem RowMatch.liim (dontCare : BitVec 5) (n : BitVec 2) : RowMatch.Statement (.liim dontCare n) :=
  head_row2 0x59#9 dontCare n

end Sys2Proof.Laws
end

