-- ==== Sys2Proof/Tests/Slice0.lean ====
section
/-! SUPPORT. The model's own tests. Expected results are the spec's: the encodings of R103 and R120, the derived vectors
and programs of 95_test_vectors.md parts 2 and 3, and the rules a comment names. -/

namespace Sys2Proof.Tests

open Sys2Proof Sys2Proof.Machine

/-- A word stored in memory, high-order byte first. -/
def put (m : Memory) (a v : Word) : Memory :=
  Memory.write (Memory.write m (even a).toNat (v.extractLsb' 8 8)) (even a + 1).toNat (v.extractLsb' 0 8)

/-- A state at an instruction boundary, with words in memory. -/
def started (p : Part) (pc wp st : Word) (cells : List (Word × Word)) : State :=
  { State.resetOn p with
    pc := pc, wp := wp, st := st, inhibit := false, mem := cells.foldl (fun m c => put m c.1 c.2) [] }

/-- The state with driven CRU input bits. -/
def lines (s : State) (l : List (Nat × Bool)) : State := { s with dev := { s.dev with cruLines := l } }

/-- One step answers a next state, of which `f` holds. -/
def after (s : State) (f : State → Bool) : Bool :=
  match step s with
  | .next t => f t
  | _ => false

/-- One step refuses an undefined word. -/
def refuses (s : State) (w : Word) : Bool :=
  match step s with
  | .refused (.undefinedOpcode v) => v == w
  | _ => false

/-! ## Decoding: a word written out from the patterns of R120, for every instruction -/

theorem test_decode_li : decode .tms9980 0b000000100000_1100#16 = .ok (.li 12) := by decide
theorem test_decode_ai : decode .tms9900 0b000000100010_0001#16 = .ok (.ai 1) := by decide
theorem test_decode_andi : decode .tms9900 0b000000100100_0010#16 = .ok (.andi 2) := by decide
theorem test_decode_ori : decode .tms9940 0b000000100110_1111#16 = .ok (.ori 15) := by decide
theorem test_decode_ci : decode .tms9900 0b000000101000_1000#16 = .ok (.ci 8) := by decide
theorem test_decode_stwp : decode .tms9900 0b000000101010_0011#16 = .ok (.stwp 3) := by decide
theorem test_decode_stst : decode .tms9940 0b000000101100_0100#16 = .ok (.stst 4) := by decide
theorem test_decode_lwpi : decode .tms9900 0b0000001011100000#16 = .ok (.lwpi) := by decide
theorem test_decode_limi : decode .tms9940 0b0000001100000000#16 = .ok (.limi) := by decide
theorem test_decode_idle : decode .tms9940 0b0000001101000000#16 = .ok (.idle) := by decide
theorem test_decode_rset : decode .tms9980 0b0000001101100000#16 = .ok (.rset) := by decide
theorem test_decode_rtwp : decode .tms9900 0b0000001110000000#16 = .ok (.rtwp) := by decide
theorem test_decode_ckon : decode .tms9900 0b0000001110100000#16 = .ok (.ckon) := by decide
theorem test_decode_ckof : decode .tms9900 0b0000001111000000#16 = .ok (.ckof) := by decide
theorem test_decode_lrex : decode .tms9980 0b0000001111100000#16 = .ok (.lrex) := by decide
theorem test_decode_blwp : decode .tms9900 0b0000010000_01_0111#16 = .ok (.blwp (.ind 7)) := by decide
theorem test_decode_b : decode .tms9900 0b0000010001_01_1011#16 = .ok (.b (.ind 11)) := by decide
theorem test_decode_x : decode .tms9900 0b0000010010_00_0101#16 = .ok (.x (.reg 5)) := by decide
theorem test_decode_clr : decode .tms9900 0b0000010011_10_0000#16 = .ok (.clr .direct) := by decide
theorem test_decode_neg : decode .tms9900 0b0000010100_00_0001#16 = .ok (.neg (.reg 1)) := by decide
theorem test_decode_inv : decode .tms9980 0b0000010101_11_0010#16 = .ok (.inv (.autoInc 2)) := by decide
theorem test_decode_inc : decode .tms9900 0b0000010110_10_0001#16 = .ok (.inc (.indexed 1)) := by decide
theorem test_decode_inct : decode .tms9900 0b0000010111_00_1010#16 = .ok (.inct (.reg 10)) := by decide
theorem test_decode_dec : decode .tms9940 0b0000011000_00_0010#16 = .ok (.dec (.reg 2)) := by decide
theorem test_decode_dect : decode .tms9900 0b0000011001_01_0100#16 = .ok (.dect (.ind 4)) := by decide
theorem test_decode_bl : decode .tms9900 0b0000011010_10_0000#16 = .ok (.bl .direct) := by decide
theorem test_decode_swpb : decode .tms9900 0b0000011011_00_0110#16 = .ok (.swpb (.reg 6)) := by decide
theorem test_decode_seto : decode .tms9900 0b0000011100_11_0001#16 = .ok (.seto (.autoInc 1)) := by decide
theorem test_decode_abs : decode .tms9900 0b0000011101_00_1001#16 = .ok (.abs (.reg 9)) := by decide
theorem test_decode_sra : decode .tms9900 0b00001000_0100_0001#16 = .ok (.sra 4 1) := by decide
theorem test_decode_srl : decode .tms9900 0b00001001_1000_0010#16 = .ok (.srl 8 2) := by decide
theorem test_decode_sla : decode .tms9900 0b00001010_0001_0001#16 = .ok (.sla 1 1) := by decide
theorem test_decode_src : decode .tms9940 0b00001011_0000_1111#16 = .ok (.src 0 15) := by decide
theorem test_decode_jmp : decode .tms9900 0b00010000_11111111#16 = .ok (.jmp 0xFF) := by decide
theorem test_decode_jlt : decode .tms9900 0b00010001_00000100#16 = .ok (.jlt 4) := by decide
theorem test_decode_jle : decode .tms9900 0b00010010_10000000#16 = .ok (.jle 0x80) := by decide
theorem test_decode_jeq : decode .tms9900 0b00010011_00000001#16 = .ok (.jeq 1) := by decide
theorem test_decode_jhe : decode .tms9900 0b00010100_11111110#16 = .ok (.jhe 0xFE) := by decide
theorem test_decode_jgt : decode .tms9900 0b00010101_00000000#16 = .ok (.jgt 0) := by decide
theorem test_decode_jne : decode .tms9900 0b00010110_11111100#16 = .ok (.jne 0xFC) := by decide
theorem test_decode_jnc : decode .tms9900 0b00010111_00000001#16 = .ok (.jnc 1) := by decide
theorem test_decode_joc : decode .tms9900 0b00011000_01111111#16 = .ok (.joc 0x7F) := by decide
theorem test_decode_jno : decode .tms9900 0b00011001_00000001#16 = .ok (.jno 1) := by decide
theorem test_decode_jl : decode .tms9900 0b00011010_00000100#16 = .ok (.jl 4) := by decide
theorem test_decode_jh : decode .tms9900 0b00011011_00000100#16 = .ok (.jh 4) := by decide
theorem test_decode_jop : decode .tms9900 0b00011100_00000100#16 = .ok (.jop 4) := by decide
theorem test_decode_sbo : decode .tms9900 0b00011101_00000011#16 = .ok (.sbo 3) := by decide
theorem test_decode_sbz : decode .tms9900 0b00011110_11111111#16 = .ok (.sbz 0xFF) := by decide
theorem test_decode_tb : decode .tms9940 0b00011111_00001111#16 = .ok (.tb 15) := by decide
theorem test_decode_coc : decode .tms9900 0b001000_0010_00_0001#16 = .ok (.coc 2 (.reg 1)) := by decide
theorem test_decode_czc : decode .tms9900 0b001001_0010_01_0001#16 = .ok (.czc 2 (.ind 1)) := by decide
theorem test_decode_xor : decode .tms9900 0b001010_0010_11_0001#16 = .ok (.xor 2 (.autoInc 1)) := by decide
theorem test_decode_xop : decode .tms9900 0b001011_0010_10_0000#16 = .ok (.xop 2 .direct) := by decide
theorem test_decode_ldcr : decode .tms9900 0b001100_0100_00_0011#16 = .ok (.ldcr 4 (.reg 3)) := by decide
theorem test_decode_stcr : decode .tms9900 0b001101_0000_10_0010#16 = .ok (.stcr 0 (.indexed 2)) := by decide
theorem test_decode_mpy : decode .tms9900 0b001110_1111_00_0001#16 = .ok (.mpy 15 (.reg 1)) := by decide
theorem test_decode_div : decode .tms9900 0b001111_0010_00_0001#16 = .ok (.div 2 (.reg 1)) := by decide
theorem test_decode_szc : decode .tms9900 0b0100_00_0010_01_0001#16 = .ok (.szc (.ind 1) (.reg 2)) := by decide
theorem test_decode_szcb : decode .tms9900 0b0101_11_0010_00_0001#16 = .ok (.szcb (.reg 1) (.autoInc 2)) := by decide
theorem test_decode_s : decode .tms9900 0b0110_00_0010_00_0001#16 = .ok (.s (.reg 1) (.reg 2)) := by decide
theorem test_decode_sb : decode .tms9900 0b0111_01_0010_00_0001#16 = .ok (.sb (.reg 1) (.ind 2)) := by decide
theorem test_decode_c : decode .tms9900 0b1000_11_0010_11_0001#16 = .ok (.c (.autoInc 1) (.autoInc 2)) := by decide
theorem test_decode_cb : decode .tms9900 0b1001_00_0010_10_0000#16 = .ok (.cb .direct (.reg 2)) := by decide
theorem test_decode_a : decode .tms9900 0b1010_10_0011_10_0000#16 = .ok (.a .direct (.indexed 3)) := by decide
theorem test_decode_ab : decode .tms9900 0b1011_00_0010_00_0001#16 = .ok (.ab (.reg 1) (.reg 2)) := by decide
theorem test_decode_mov : decode .tms9900 0b1100_11_0010_10_0001#16 = .ok (.mov (.indexed 1) (.autoInc 2)) := by decide
theorem test_decode_movb : decode .tms9900 0b1101_10_0000_00_0001#16 = .ok (.movb (.reg 1) .direct) := by decide
theorem test_decode_soc : decode .tms9900 0b1110_00_0010_00_0001#16 = .ok (.soc (.reg 1) (.reg 2)) := by decide
theorem test_decode_socb : decode .tms9900 0b1111_00_0010_00_0001#16 = .ok (.socb (.reg 1) (.reg 2)) := by decide
theorem test_decode_dca : decode .tms9940 0b0010110000_00_0010#16 = .ok (.dca (.reg 2)) := by decide
theorem test_decode_dcs : decode .tms9940 0b0010110001_10_0000#16 = .ok (.dcs .direct) := by decide
theorem test_decode_liim : decode .tms9940 0b001011001_11111_10#16 = .ok (.liim 31 2) := by decide

/-! ## One step, from the derived vectors of 95_test_vectors.md part 2 -/

/-- A R1,R2 -/
theorem test_a_1 : after (started .tms9900 0x0100 0x8300 0x0000 [(0x0100, 0xA081), (0x8302, 0x7FFF),
      (0x8304, 0x0001)]) (fun t =>
    t.st == 0x8800 && t.pc == 0x0102 && t.peekWord 0x8304 == 0x8000) = true := by decide
/-- A @>9000,@>9002(R3) -/
theorem test_a_2 : after (started .tms9900 0x0100 0x8300 0x0000 [(0x0100, 0xA8E0), (0x0102, 0x9000),
      (0x0104, 0x9002), (0x8306, 0x0004), (0x9000, 0x1234), (0x9006, 0x1111)]) (fun t =>
    t.st == 0xC000 && t.pc == 0x0106 && t.peekWord 0x9006 == 0x2345) = true := by decide
/-- AB R1,R2 -/
theorem test_ab_1 : after (started .tms9900 0x0100 0x8300 0x0000 [(0x0100, 0xB081), (0x8302, 0x7F00),
      (0x8304, 0x01AA)]) (fun t =>
    t.st == 0x8C00 && t.pc == 0x0102 && t.peekWord 0x8304 == 0x80AA) = true := by decide
/-- AB *R1+,*R2+ -/
theorem test_ab_2 : after (started .tms9900 0x0100 0x8300 0x0000 [(0x0100, 0xBCB1), (0x8302, 0x9000),
      (0x8304, 0x9003), (0x9000, 0x8000), (0x9002, 0x0080)]) (fun t =>
    t.st == 0x3800 && t.pc == 0x0102 && t.peekWord 0x8302 == 0x9001 && t.peekWord 0x8304 == 0x9004 &&
      t.peekWord 0x9002 == 0x0000) = true := by decide
/-- S R1,R2 -/
theorem test_s_1 : after (started .tms9900 0x0100 0x8300 0x0000 [(0x0100, 0x6081), (0x8302, 0x0003),
      (0x8304, 0x0001)]) (fun t =>
    t.st == 0x8000 && t.pc == 0x0102 && t.peekWord 0x8304 == 0xFFFE) = true := by decide
/-- S R1,R2 -/
theorem test_s_2 : after (started .tms9900 0x0100 0x8300 0x0000 [(0x0100, 0x6081), (0x8302, 0x0001),
      (0x8304, 0x8000)]) (fun t =>
    t.st == 0xD800 && t.pc == 0x0102 && t.peekWord 0x8304 == 0x7FFF) = true := by decide
/-- SB R1,R2 -/
theorem test_sb_1 : after (started .tms9900 0x0100 0x8300 0x0000 [(0x0100, 0x7081), (0x8302, 0x8000),
      (0x8304, 0x7F55)]) (fun t =>
    t.st == 0x8800 && t.pc == 0x0102 && t.peekWord 0x8304 == 0xFF55) = true := by decide
/-- C R1,R2 -/
theorem test_c_1 : after (started .tms9900 0x0100 0x8300 0x0000 [(0x0100, 0x8081), (0x8302, 0x0001),
      (0x8304, 0xFFFF)]) (fun t =>
    t.st == 0x4000 && t.pc == 0x0102) = true := by decide
/-- CB R1,R2 -/
theorem test_cb_1 : after (started .tms9900 0x0100 0x8300 0x0000 [(0x0100, 0x9081), (0x8302, 0x80FF),
      (0x8304, 0x7F00)]) (fun t =>
    t.st == 0x8400 && t.pc == 0x0102) = true := by decide
/-- XOR R1,R2 -/
theorem test_xor_1 : after (started .tms9900 0x0100 0x8300 0x0000 [(0x0100, 0x2881), (0x8302, 0xFF00),
      (0x8304, 0x0FF0)]) (fun t =>
    t.st == 0x8000 && t.pc == 0x0102 && t.peekWord 0x8304 == 0xF0F0) = true := by decide
/-- MPY R1,R2 -/
theorem test_mpy_1 : after (started .tms9900 0x0100 0x8300 0xF800 [(0x0100, 0x3881), (0x8302, 0xFFFF),
      (0x8304, 0xFFFF), (0x8306, 0x1234)]) (fun t =>
    t.st == 0xF800 && t.pc == 0x0102 && t.peekWord 0x8304 == 0xFFFE &&
      t.peekWord 0x8306 == 0x0001) = true := by decide
/-- MPY R1,R15 -/
theorem test_mpy_2 : after (started .tms9900 0x0100 0x8300 0x0000 [(0x0100, 0x3BC1), (0x8302, 0x0002),
      (0x831E, 0x8001), (0x8320, 0xAAAA)]) (fun t =>
    t.st == 0x0000 && t.pc == 0x0102 && t.peekWord 0x831E == 0x0001 &&
      t.peekWord 0x8320 == 0x0002) = true := by decide
/-- DIV R1,R2 -/
theorem test_div_1 : after (started .tms9900 0x0100 0x8300 0x0000 [(0x0100, 0x3C81), (0x8302, 0x0010),
      (0x8304, 0x0001), (0x8306, 0x0005)]) (fun t =>
    t.st == 0x0000 && t.pc == 0x0102 && t.peekWord 0x8304 == 0x1000 &&
      t.peekWord 0x8306 == 0x0005) = true := by decide
/-- DIV R1,R2 -/
theorem test_div_2 : after (started .tms9900 0x0100 0x8300 0x0000 [(0x0100, 0x3C81), (0x8302, 0x0002),
      (0x8304, 0x0002), (0x8306, 0x0000)]) (fun t =>
    t.st == 0x0800 && t.pc == 0x0102) = true := by decide
/-- INC R1 -/
theorem test_inc_1 : after (started .tms9900 0x0100 0x8300 0x0000 [(0x0100, 0x0581), (0x8302, 0x7FFF)]) (fun t =>
    t.st == 0x8800 && t.pc == 0x0102 && t.peekWord 0x8302 == 0x8000) = true := by decide
/-- INCT R1 -/
theorem test_inct_1 : after (started .tms9900 0x0100 0x8300 0x0000 [(0x0100, 0x05C1), (0x8302, 0xFFFE)]) (fun t =>
    t.st == 0x3000 && t.pc == 0x0102 && t.peekWord 0x8302 == 0x0000) = true := by decide
/-- DEC R1 -/
theorem test_dec_1 : after (started .tms9900 0x0100 0x8300 0x0000 [(0x0100, 0x0601), (0x8302, 0x0000)]) (fun t =>
    t.st == 0x8000 && t.pc == 0x0102 && t.peekWord 0x8302 == 0xFFFF) = true := by decide
/-- DEC R1 -/
theorem test_dec_2 : after (started .tms9900 0x0100 0x8300 0x0000 [(0x0100, 0x0601), (0x8302, 0x8000)]) (fun t =>
    t.st == 0xD800 && t.pc == 0x0102 && t.peekWord 0x8302 == 0x7FFF) = true := by decide
/-- DECT R1 -/
theorem test_dect_1 : after (started .tms9900 0x0100 0x8300 0x0000 [(0x0100, 0x0641), (0x8302, 0x0001)]) (fun t =>
    t.st == 0x8000 && t.pc == 0x0102 && t.peekWord 0x8302 == 0xFFFF) = true := by decide
/-- DECT R1 -/
theorem test_dect_2 : after (started .tms9900 0x0100 0x8300 0x0000 [(0x0100, 0x0641), (0x8302, 0x8001)]) (fun t =>
    t.st == 0xD800 && t.pc == 0x0102 && t.peekWord 0x8302 == 0x7FFF) = true := by decide
/-- CLR R1 -/
theorem test_clr_1 : after (started .tms9900 0x0100 0x8300 0xFC00 [(0x0100, 0x04C1), (0x8302, 0x1234)]) (fun t =>
    t.st == 0xFC00 && t.pc == 0x0102 && t.peekWord 0x8302 == 0x0000) = true := by decide
/-- CLR @>9000(R2) -/
theorem test_clr_2 : after (started .tms9900 0x0100 0x8300 0x0000 [(0x0100, 0x04E2), (0x0102, 0x9000),
      (0x8304, 0x0003), (0x9002, 0xBEEF)]) (fun t =>
    t.st == 0x0000 && t.pc == 0x0104 && t.peekWord 0x9002 == 0x0000) = true := by decide
/-- SETO R1 -/
theorem test_seto_1 : after (started .tms9900 0x0100 0x8300 0x0000 [(0x0100, 0x0701), (0x8302, 0x1234)]) (fun t =>
    t.st == 0x0000 && t.pc == 0x0102 && t.peekWord 0x8302 == 0xFFFF) = true := by decide
/-- INV R1 -/
theorem test_inv_1 : after (started .tms9900 0x0100 0x8300 0x1800 [(0x0100, 0x0541), (0x8302, 0x8000)]) (fun t =>
    t.st == 0xD800 && t.pc == 0x0102 && t.peekWord 0x8302 == 0x7FFF) = true := by decide
/-- NEG R1 -/
theorem test_neg_1 : after (started .tms9900 0x0100 0x8300 0x0000 [(0x0100, 0x0501), (0x8302, 0x0000)]) (fun t =>
    t.st == 0x3000 && t.pc == 0x0102) = true := by decide
/-- NEG R1 -/
theorem test_neg_2 : after (started .tms9900 0x0100 0x8300 0x0000 [(0x0100, 0x0501), (0x8302, 0x8000)]) (fun t =>
    t.st == 0x8800 && t.pc == 0x0102) = true := by decide
/-- ABS R1 -/
theorem test_abs_1 : after (started .tms9900 0x0100 0x8300 0x1000 [(0x0100, 0x0741), (0x8302, 0xFFFB)]) (fun t =>
    t.st == 0x8000 && t.pc == 0x0102 && t.peekWord 0x8302 == 0x0005) = true := by decide
/-- ABS R1 -/
theorem test_abs_2 : after (started .tms9900 0x0100 0x8300 0x0000 [(0x0100, 0x0741), (0x8302, 0x8000)]) (fun t =>
    t.st == 0x8800 && t.pc == 0x0102) = true := by decide
/-- SWPB R1 -/
theorem test_swpb_1 : after (started .tms9900 0x0100 0x8300 0xA000 [(0x0100, 0x06C1), (0x8302, 0x12AB)]) (fun t =>
    t.st == 0xA000 && t.pc == 0x0102 && t.peekWord 0x8302 == 0xAB12) = true := by decide
/-- SOC R1,R2 -/
theorem test_soc_1 : after (started .tms9900 0x0100 0x8300 0x0000 [(0x0100, 0xE081), (0x8302, 0xBA6D),
      (0x8304, 0xB2A2)]) (fun t =>
    t.st == 0x8000 && t.pc == 0x0102 && t.peekWord 0x8304 == 0xBAEF) = true := by decide
/-- SOCB R1,R2 -/
theorem test_socb_1 : after (started .tms9900 0x0100 0x8300 0x0000 [(0x0100, 0xF081), (0x8302, 0x0F12),
      (0x8304, 0x8034)]) (fun t =>
    t.st == 0x8400 && t.pc == 0x0102 && t.peekWord 0x8304 == 0x8F34) = true := by decide
/-- SZC R1,R2 -/
theorem test_szc_1 : after (started .tms9900 0x0100 0x8300 0x0000 [(0x0100, 0x4081), (0x8302, 0xA6B9),
      (0x8304, 0x5BAD)]) (fun t =>
    t.st == 0xC000 && t.pc == 0x0102 && t.peekWord 0x8304 == 0x5904) = true := by decide
/-- SZCB R1,R2 -/
theorem test_szcb_1 : after (started .tms9900 0x0100 0x8300 0x0000 [(0x0100, 0x5081), (0x8302, 0xF0FF),
      (0x8304, 0xFF77)]) (fun t =>
    t.st == 0xC000 && t.pc == 0x0102 && t.peekWord 0x8304 == 0x0F77) = true := by decide
/-- COC R1,R2 -/
theorem test_coc_1 : after (started .tms9900 0x0100 0x8300 0x0000 [(0x0100, 0x2081), (0x8302, 0x00F0),
      (0x8304, 0x12F4)]) (fun t =>
    t.st == 0x2000 && t.pc == 0x0102) = true := by decide
/-- COC R1,R2 -/
theorem test_coc_2 : after (started .tms9900 0x0100 0x8300 0x2000 [(0x0100, 0x2081), (0x8302, 0x00F0),
      (0x8304, 0x12E4)]) (fun t =>
    t.st == 0x0000 && t.pc == 0x0102) = true := by decide
/-- CZC R1,R2 -/
theorem test_czc_1 : after (started .tms9900 0x0100 0x8300 0x0000 [(0x0100, 0x2481), (0x8302, 0x00F0),
      (0x8304, 0x1204)]) (fun t =>
    t.st == 0x2000 && t.pc == 0x0102) = true := by decide
/-- CZC R1,R2 -/
theorem test_czc_2 : after (started .tms9900 0x0100 0x8300 0x2000 [(0x0100, 0x2481), (0x8302, 0x00F0),
      (0x8304, 0x1214)]) (fun t =>
    t.st == 0x0000 && t.pc == 0x0102) = true := by decide
/-- MOV R1,*R1+ -/
theorem test_mov_1 : after (started .tms9900 0x0100 0x8300 0x0000 [(0x0100, 0xCC41), (0x8302, 0x9000)]) (fun t =>
    t.st == 0x8000 && t.pc == 0x0102 && t.peekWord 0x8302 == 0x9002 &&
      t.peekWord 0x9000 == 0x9000) = true := by decide
/-- MOV *R1+,*R1+ -/
theorem test_mov_2 : after (started .tms9900 0x0100 0x8300 0x0000 [(0x0100, 0xCC71), (0x8302, 0x9000),
      (0x9000, 0xAAAA), (0x9002, 0xBBBB)]) (fun t =>
    t.st == 0x8000 && t.pc == 0x0102 && t.peekWord 0x8302 == 0x9004 &&
      t.peekWord 0x9002 == 0xAAAA) = true := by decide
/-- MOVB R1,@>9001 -/
theorem test_movb_2 : after (started .tms9900 0x0100 0x8300 0x0000 [(0x0100, 0xD801), (0x0102, 0x9001),
      (0x8302, 0x0055), (0x9000, 0xAABB)]) (fun t =>
    t.st == 0x2000 && t.pc == 0x0104 && t.peekWord 0x9000 == 0xAA00) = true := by decide
/-- LI R3,>0A00 -/
theorem test_li_1 : after (started .tms9900 0x0100 0x8300 0x0000 [(0x0100, 0x0203), (0x0102, 0x0A00),
      (0x8306, 0xFFFF)]) (fun t =>
    t.st == 0xC000 && t.pc == 0x0104 && t.peekWord 0x8306 == 0x0A00) = true := by decide
/-- AI R1,>0001 -/
theorem test_ai_1 : after (started .tms9900 0x0100 0x8300 0x0000 [(0x0100, 0x0221), (0x0102, 0x0001),
      (0x8302, 0x7FFF)]) (fun t =>
    t.st == 0x8800 && t.pc == 0x0104 && t.peekWord 0x8302 == 0x8000) = true := by decide
/-- ANDI R1,>00FF -/
theorem test_andi_1 : after (started .tms9900 0x0100 0x8300 0x1800 [(0x0100, 0x0241), (0x0102, 0x00FF),
      (0x8302, 0x1234)]) (fun t =>
    t.st == 0xD800 && t.pc == 0x0104 && t.peekWord 0x8302 == 0x0034) = true := by decide
/-- ORI R1,>8000 -/
theorem test_ori_1 : after (started .tms9900 0x0100 0x8300 0x0000 [(0x0100, 0x0261), (0x0102, 0x8000),
      (0x8302, 0x0001)]) (fun t =>
    t.st == 0x8000 && t.pc == 0x0104 && t.peekWord 0x8302 == 0x8001) = true := by decide
/-- CI R1,>FFFF -/
theorem test_ci_1 : after (started .tms9900 0x0100 0x8300 0x0000 [(0x0100, 0x0281), (0x0102, 0xFFFF),
      (0x8302, 0x0001)]) (fun t =>
    t.st == 0x4000 && t.pc == 0x0104) = true := by decide
/-- CI R1,>7FFF -/
theorem test_ci_2 : after (started .tms9900 0x0100 0x8300 0x1C00 [(0x0100, 0x0281), (0x0102, 0x7FFF),
      (0x8302, 0x8000)]) (fun t =>
    t.st == 0x9C00 && t.pc == 0x0104) = true := by decide
/-- LWPI >8341 -/
theorem test_lwpi_1 : after (started .tms9900 0x0100 0x8300 0x0000 [(0x0100, 0x02E0), (0x0102, 0x8341)]) (fun t =>
    t.st == 0x0000 && t.pc == 0x0104 && t.wp == 0x8340) = true := by decide
/-- LIMI >FFF2 -/
theorem test_limi_1 : after (started .tms9900 0x0100 0x8300 0xC00F [(0x0100, 0x0300), (0x0102, 0xFFF2)]) (fun t =>
    t.st == 0xC002 && t.pc == 0x0104) = true := by decide
/-- LIMI >000E -/
theorem test_limi_2 : after (started .tms9940 0x0100 0x8300 0x0001 [(0x0100, 0x0300), (0x0102, 0x000E)]) (fun t =>
    t.st == 0x0002 && t.pc == 0x0104) = true := by decide
/-- STWP R1 -/
theorem test_stwp_1 : after (started .tms9900 0x0100 0x8300 0x0000 [(0x0100, 0x02A1)]) (fun t =>
    t.st == 0x0000 && t.pc == 0x0102 && t.peekWord 0x8302 == 0x8300) = true := by decide
/-- STST R1 -/
theorem test_stst_1 : after (started .tms9900 0x0100 0x8300 0xD002 [(0x0100, 0x02C1)]) (fun t =>
    t.st == 0xD002 && t.pc == 0x0102 && t.peekWord 0x8302 == 0xD002) = true := by decide
/-- SLA R1,4 -/
theorem test_sla_1 : after (started .tms9900 0x0100 0x8300 0x0000 [(0x0100, 0x0A41), (0x8302, 0x1001)]) (fun t =>
    t.st == 0xD800 && t.pc == 0x0102 && t.peekWord 0x8302 == 0x0010) = true := by decide
/-- SLA R1,0 (R0=0: 16) -/
theorem test_sla_2 : after (started .tms9900 0x0100 0x8300 0x0000 [(0x0100, 0x0A01), (0x8300, 0x0000),
      (0x8302, 0x0001)]) (fun t =>
    t.st == 0x3800 && t.pc == 0x0102 && t.peekWord 0x8302 == 0x0000) = true := by decide
/-- SRA R1,1 -/
theorem test_sra_1 : after (started .tms9900 0x0100 0x8300 0x0000 [(0x0100, 0x0811), (0x8302, 0x8001)]) (fun t =>
    t.st == 0x9000 && t.pc == 0x0102 && t.peekWord 0x8302 == 0xC000) = true := by decide
/-- SRA R1,0 (R0=0: 16) -/
theorem test_sra_2 : after (started .tms9900 0x0100 0x8300 0x0000 [(0x0100, 0x0801), (0x8300, 0x0000),
      (0x8302, 0x8000)]) (fun t =>
    t.st == 0x9000 && t.pc == 0x0102 && t.peekWord 0x8302 == 0xFFFF) = true := by decide
/-- SRL R1,1 -/
theorem test_srl_1 : after (started .tms9900 0x0100 0x8300 0x0000 [(0x0100, 0x0911), (0x8302, 0x8001)]) (fun t =>
    t.st == 0xD000 && t.pc == 0x0102 && t.peekWord 0x8302 == 0x4000) = true := by decide
/-- SRL R1,0 (R0=0: 16) -/
theorem test_srl_2 : after (started .tms9900 0x0100 0x8300 0x0000 [(0x0100, 0x0901), (0x8300, 0x0000),
      (0x8302, 0x8000)]) (fun t =>
    t.st == 0x3000 && t.pc == 0x0102 && t.peekWord 0x8302 == 0x0000) = true := by decide
/-- SRC R1,4 -/
theorem test_src_1 : after (started .tms9900 0x0100 0x8300 0x0000 [(0x0100, 0x0B41), (0x8302, 0x1234)]) (fun t =>
    t.st == 0xC000 && t.pc == 0x0102 && t.peekWord 0x8302 == 0x4123) = true := by decide
/-- SRC R1,0 (R0=0: 16) -/
theorem test_src_2 : after (started .tms9900 0x0100 0x8300 0x0000 [(0x0100, 0x0B01), (0x8300, 0x0000),
      (0x8302, 0x8001)]) (fun t =>
    t.st == 0x9000 && t.pc == 0x0102) = true := by decide
/-- JMP $ -/
theorem test_jmp_1 : after (started .tms9900 0x0100 0x8300 0x0000 [(0x0100, 0x10FF)]) (fun t =>
    t.st == 0x0000 && t.pc == 0x0100) = true := by decide
/-- JMP $+4 at pc = 0xFFFE -/
theorem test_jmp_2 : after (started .tms9900 0xFFFE 0x8300 0x0000 [(0xFFFE, 0x1001)]) (fun t =>
    t.st == 0x0000 && t.pc == 0x0002) = true := by decide
/-- JEQ st=0 -/
theorem test_jeq_1 : after (started .tms9900 0x0100 0x8300 0x0000 [(0x0100, 0x1304)]) (fun t =>
    t.st == 0x0000 && t.pc == 0x0102) = true := by decide
/-- JEQ st=2000 -/
theorem test_jeq_2 : after (started .tms9900 0x0100 0x8300 0x2000 [(0x0100, 0x1304)]) (fun t =>
    t.st == 0x2000 && t.pc == 0x010A) = true := by decide
/-- JNE st=0 -/
theorem test_jne_1 : after (started .tms9900 0x0100 0x8300 0x0000 [(0x0100, 0x1604)]) (fun t =>
    t.st == 0x0000 && t.pc == 0x010A) = true := by decide
/-- JNE st=2000 -/
theorem test_jne_2 : after (started .tms9900 0x0100 0x8300 0x2000 [(0x0100, 0x1604)]) (fun t =>
    t.st == 0x2000 && t.pc == 0x0102) = true := by decide
/-- JGT st=0 -/
theorem test_jgt_1 : after (started .tms9900 0x0100 0x8300 0x0000 [(0x0100, 0x1504)]) (fun t =>
    t.st == 0x0000 && t.pc == 0x0102) = true := by decide
/-- JGT st=4000 -/
theorem test_jgt_2 : after (started .tms9900 0x0100 0x8300 0x4000 [(0x0100, 0x1504)]) (fun t =>
    t.st == 0x4000 && t.pc == 0x010A) = true := by decide
/-- JLT st=0 -/
theorem test_jlt_1 : after (started .tms9900 0x0100 0x8300 0x0000 [(0x0100, 0x1104)]) (fun t =>
    t.st == 0x0000 && t.pc == 0x010A) = true := by decide
/-- JLT st=4000 -/
theorem test_jlt_2 : after (started .tms9900 0x0100 0x8300 0x4000 [(0x0100, 0x1104)]) (fun t =>
    t.st == 0x4000 && t.pc == 0x0102) = true := by decide
/-- JHE st=0 -/
theorem test_jhe_1 : after (started .tms9900 0x0100 0x8300 0x0000 [(0x0100, 0x1404)]) (fun t =>
    t.st == 0x0000 && t.pc == 0x0102) = true := by decide
/-- JHE st=2000 -/
theorem test_jhe_2 : after (started .tms9900 0x0100 0x8300 0x2000 [(0x0100, 0x1404)]) (fun t =>
    t.st == 0x2000 && t.pc == 0x010A) = true := by decide
/-- JH st=8000 -/
theorem test_jh_1 : after (started .tms9900 0x0100 0x8300 0x8000 [(0x0100, 0x1B04)]) (fun t =>
    t.st == 0x8000 && t.pc == 0x010A) = true := by decide
/-- JH st=fc00 -/
theorem test_jh_2 : after (started .tms9900 0x0100 0x8300 0xFC00 [(0x0100, 0x1B04)]) (fun t =>
    t.st == 0xFC00 && t.pc == 0x0102) = true := by decide
/-- JL st=0 -/
theorem test_jl_1 : after (started .tms9900 0x0100 0x8300 0x0000 [(0x0100, 0x1A04)]) (fun t =>
    t.st == 0x0000 && t.pc == 0x010A) = true := by decide
/-- JL st=8000 -/
theorem test_jl_2 : after (started .tms9900 0x0100 0x8300 0x8000 [(0x0100, 0x1A04)]) (fun t =>
    t.st == 0x8000 && t.pc == 0x0102) = true := by decide
/-- JLE st=2000 -/
theorem test_jle_1 : after (started .tms9900 0x0100 0x8300 0x2000 [(0x0100, 0x1204)]) (fun t =>
    t.st == 0x2000 && t.pc == 0x010A) = true := by decide
/-- JLE st=8000 -/
theorem test_jle_2 : after (started .tms9900 0x0100 0x8300 0x8000 [(0x0100, 0x1204)]) (fun t =>
    t.st == 0x8000 && t.pc == 0x0102) = true := by decide
/-- JNC st=0 -/
theorem test_jnc_1 : after (started .tms9900 0x0100 0x8300 0x0000 [(0x0100, 0x1704)]) (fun t =>
    t.st == 0x0000 && t.pc == 0x010A) = true := by decide
/-- JNC st=1000 -/
theorem test_jnc_2 : after (started .tms9900 0x0100 0x8300 0x1000 [(0x0100, 0x1704)]) (fun t =>
    t.st == 0x1000 && t.pc == 0x0102) = true := by decide
/-- JNO st=0 -/
theorem test_jno_1 : after (started .tms9900 0x0100 0x8300 0x0000 [(0x0100, 0x1904)]) (fun t =>
    t.st == 0x0000 && t.pc == 0x010A) = true := by decide
/-- JNO st=800 -/
theorem test_jno_2 : after (started .tms9900 0x0100 0x8300 0x0800 [(0x0100, 0x1904)]) (fun t =>
    t.st == 0x0800 && t.pc == 0x0102) = true := by decide
/-- JOC st=0 -/
theorem test_joc_1 : after (started .tms9900 0x0100 0x8300 0x0000 [(0x0100, 0x1804)]) (fun t =>
    t.st == 0x0000 && t.pc == 0x0102) = true := by decide
/-- JOC st=1000 -/
theorem test_joc_2 : after (started .tms9900 0x0100 0x8300 0x1000 [(0x0100, 0x1804)]) (fun t =>
    t.st == 0x1000 && t.pc == 0x010A) = true := by decide
/-- JOP st=0 -/
theorem test_jop_1 : after (started .tms9900 0x0100 0x8300 0x0000 [(0x0100, 0x1C04)]) (fun t =>
    t.st == 0x0000 && t.pc == 0x0102) = true := by decide
/-- JOP st=400 -/
theorem test_jop_2 : after (started .tms9900 0x0100 0x8300 0x0400 [(0x0100, 0x1C04)]) (fun t =>
    t.st == 0x0400 && t.pc == 0x010A) = true := by decide
/-- B *R11 -/
theorem test_b_1 : after (started .tms9900 0x0100 0x8300 0x0000 [(0x0100, 0x045B), (0x8316, 0x0235)]) (fun t =>
    t.st == 0x0000 && t.pc == 0x0234) = true := by decide
/-- B R5 -/
theorem test_b_2 : after (started .tms9900 0x0100 0x8300 0x0000 [(0x0100, 0x0445)]) (fun t =>
    t.st == 0x0000 && t.pc == 0x830A) = true := by decide
/-- BL @>2000 -/
theorem test_bl_1 : after (started .tms9900 0x0100 0x8300 0x0000 [(0x0100, 0x06A0), (0x0102, 0x2000),
      (0x8316, 0xFFFF)]) (fun t =>
    t.st == 0x0000 && t.pc == 0x2000 && t.peekWord 0x8316 == 0x0104) = true := by decide
/-- BL R11 -/
theorem test_bl_2 : after (started .tms9900 0x0100 0x8300 0x0000 [(0x0100, 0x068B), (0x8316, 0x3000)]) (fun t =>
    t.st == 0x0000 && t.pc == 0x8316 && t.peekWord 0x8316 == 0x0102) = true := by decide
/-- BLWP @>9000 -/
theorem test_blwp_1 : after (started .tms9900 0x0100 0x8300 0xC005 [(0x0100, 0x0420), (0x0102, 0x9000),
      (0x9000, 0x8340), (0x9002, 0x0500)]) (fun t =>
    t.st == 0xC005 && t.pc == 0x0500 && t.wp == 0x8340 && t.peekWord 0x835A == 0x8300 &&
      t.peekWord 0x835C == 0x0104 && t.peekWord 0x835E == 0xC005 && t.inhibit) = true := by decide
/-- BLWP R4 -/
theorem test_blwp_2 : after (started .tms9900 0x0100 0x8300 0x0000 [(0x0100, 0x0404), (0x8308, 0x8341),
      (0x830A, 0x0601)]) (fun t =>
    t.st == 0x0000 && t.pc == 0x0600 && t.wp == 0x8340 && t.peekWord 0x835A == 0x8300 &&
      t.peekWord 0x835C == 0x0102 && t.inhibit) = true := by decide
/-- RTWP -/
theorem test_rtwp_1 : after (started .tms9900 0x0100 0x8300 0x0000 [(0x0100, 0x0380), (0x831A, 0x8341),
      (0x831C, 0x0501), (0x831E, 0xFFFF)]) (fun t =>
    t.st == 0xFE0F && t.pc == 0x0500 && t.wp == 0x8340) = true := by decide
/-- RTWP (TMS 9940) -/
theorem test_rtwp_2 : after (started .tms9940 0x0100 0x8300 0x0000 [(0x0100, 0x0380), (0x831A, 0x00E1),
      (0x831C, 0x0501), (0x831E, 0xFFFF)]) (fun t =>
    t.st == 0xFD03 && t.pc == 0x0500 && t.wp == 0x00E0) = true := by decide
/-- LDCR R3,4 -/
theorem test_ldcr_1 : after (started .tms9900 0x0100 0x8300 0x0000 [(0x0100, 0x3103), (0x8306, 0x0A00),
      (0x8318, 0x0104)]) (fun t =>
    t.st == 0xC000 && t.pc == 0x0102 && t.dev.log == [.cruOut 0x85 true, .cruOut 0x84 false, .cruOut 0x83 true,
      .cruOut 0x82 false]) = true := by decide
/-- LDCR @>9001,1 -/
theorem test_ldcr_2 : after (started .tms9900 0x0100 0x8300 0x0000 [(0x0100, 0x3060), (0x0102, 0x9001),
      (0x8318, 0x0002), (0x9000, 0xFF01)]) (fun t =>
    t.st == 0xC400 && t.pc == 0x0104 && t.dev.log == [.cruOut 0x1 true]) = true := by decide
/-- STCR R2,3 -/
theorem test_stcr_1 : after (lines (started .tms9900 0x0100 0x8300 0x0000 [(0x0100, 0x34C2), (0x8304, 0xFFFF),
      (0x8318, 0x03F8)]) [(0x1fc, true), (0x1fd, false), (0x1fe, true)]) (fun t =>
    t.st == 0xC000 && t.pc == 0x0102 && t.peekWord 0x8304 == 0x05FF) = true := by decide
/-- SBO 127 -/
theorem test_sbo_1 : after (started .tms9900 0x0100 0x8300 0x0000 [(0x0100, 0x1D7F), (0x8318, 0x1FFE)]) (fun t =>
    t.st == 0x0000 && t.pc == 0x0102 && t.dev.log == [.cruOut 0x7e true]) = true := by decide
/-- SBZ -1 -/
theorem test_sbz_1 : after (started .tms9900 0x0100 0x8300 0x0000 [(0x0100, 0x1EFF), (0x8318, 0x0102)]) (fun t =>
    t.st == 0x0000 && t.pc == 0x0102 && t.dev.log == [.cruOut 0x80 false]) = true := by decide
/-- TB 15 -/
theorem test_tb_1 : after (lines (started .tms9900 0x0100 0x8300 0x0000 [(0x0100, 0x1F0F),
      (0x8318, 0x0100)]) [(0x8f, true)]) (fun t =>
    t.st == 0x2000 && t.pc == 0x0102) = true := by decide
/-- X R5 (R5 = INC R1) -/
theorem test_x_1 : after (started .tms9900 0x0100 0x8300 0x0000 [(0x0100, 0x0485), (0x830A, 0x0581),
      (0x8302, 0x0007)]) (fun t =>
    t.st == 0xC000 && t.pc == 0x0102 && t.peekWord 0x8302 == 0x0008) = true := by decide
/-- X @>9000 (= A @>9002,R1) -/
theorem test_x_2 : after (started .tms9900 0x0100 0x8300 0x0000 [(0x0100, 0x04A0), (0x0102, 0x9000),
      (0x0104, 0x9002), (0x8302, 0x0001), (0x9000, 0xA060), (0x9002, 0x0041)]) (fun t =>
    t.st == 0xC000 && t.pc == 0x0106 && t.peekWord 0x8302 == 0x0042) = true := by decide
/-- IDLE -/
theorem test_idle_1 : after (started .tms9900 0x0100 0x8300 0x0002 [(0x0100, 0x0340)]) (fun t =>
    t.st == 0x0002 && t.pc == 0x0102 && t.halted && t.dev.log == [.extCtl 2]) = true := by decide
/-- RSET -/
theorem test_rset_1 : after (started .tms9900 0x0100 0x8300 0xC00F [(0x0100, 0x0360)]) (fun t =>
    t.st == 0xC000 && t.pc == 0x0102 && t.dev.log == [.extCtl 3]) = true := by decide
/-- CKON -/
theorem test_ckon_1 : after (started .tms9900 0x0100 0x8300 0xC00F [(0x0100, 0x03A0)]) (fun t =>
    t.st == 0xC00F && t.pc == 0x0102 && t.dev.log == [.extCtl 5]) = true := by decide
/-- CKOF -/
theorem test_ckof_1 : after (started .tms9900 0x0100 0x8300 0x0000 [(0x0100, 0x03C0)]) (fun t =>
    t.st == 0x0000 && t.pc == 0x0102 && t.dev.log == [.extCtl 6]) = true := by decide
/-- LREX -/
theorem test_lrex_1 : after (started .tms9900 0x0100 0x8300 0x0000 [(0x0100, 0x03E0)]) (fun t =>
    t.st == 0x0000 && t.pc == 0x0102 && t.dev.log == [.extCtl 7]) = true := by decide
/-- XOP @>1234,2 -/
theorem test_xop_1 : after (started .tms9900 0x0100 0x8300 0x0002 [(0x0100, 0x2CA0), (0x0102, 0x1234),
      (0x0048, 0x8340), (0x004A, 0x0500)]) (fun t =>
    t.st == 0x0202 && t.pc == 0x0500 && t.wp == 0x8340 && t.peekWord 0x8356 == 0x1234 &&
      t.peekWord 0x835A == 0x8300 && t.peekWord 0x835C == 0x0104 && t.peekWord 0x835E == 0x0002 &&
      t.inhibit) = true := by decide
/-- XOP R1,4 (TMS 9940) -/
theorem test_xop_2 : after (started .tms9940 0x0100 0x8300 0x0103 [(0x0100, 0x2D01), (0x0050, 0x8320),
      (0x0052, 0x0500)]) (fun t =>
    t.st == 0x0103 && t.pc == 0x0500 && t.wp == 0x8320 && t.peekWord 0x8336 == 0x8302 &&
      t.peekWord 0x833A == 0x8300 && t.peekWord 0x833C == 0x0102 && t.peekWord 0x833E == 0x0103 &&
      t.inhibit) = true := by decide
/-- `word 0x0210` -/
theorem test_undefined_word : refuses (started .tms9900 0x0100 0x8300 0x0000 [(0x0100,
      0x0210)]) 0x0210 = true := by decide
/-- DCA R2 -/
theorem test_dca_2 : after (started .tms9940 0x0100 0x8300 0x8800 [(0x0100, 0x2C02), (0x8304, 0x9A00)]) (fun t =>
    t.st == 0x3800 && t.pc == 0x0102 && t.peekWord 0x8304 == 0x0000) = true := by decide
/-- DCS R2 -/
theorem test_dcs_1 : after (started .tms9940 0x0100 0x8300 0xD000 [(0x0100, 0x2C42), (0x8304, 0x2B00)]) (fun t =>
    t.st == 0xD400 && t.pc == 0x0102 && t.peekWord 0x8304 == 0x2500) = true := by decide
/-- DCS R2 -/
theorem test_dcs_2 : after (started .tms9940 0x0100 0x8300 0x8500 [(0x0100, 0x2C42), (0x8304, 0xD500)]) (fun t =>
    t.st == 0xC500 && t.pc == 0x0102 && t.peekWord 0x8304 == 0x7500) = true := by decide
/-- LIIM 2 -/
theorem test_liim_1 : after (started .tms9940 0x0100 0x8300 0xC003 [(0x0100, 0x2C82)]) (fun t =>
    t.st == 0xC002 && t.pc == 0x0102) = true := by decide
/-- LIIM 3 (don't-care bits set) -/
theorem test_liim_2 : after (started .tms9940 0x0100 0x8300 0x0000 [(0x0100, 0x2CFF)]) (fun t =>
    t.st == 0x0003 && t.pc == 0x0102) = true := by decide

/-! ## The interface the host asks about -/

theorem test_table_word_add : decodeTableWord 16 0xA081 = some (.a (.reg 1) (.reg 2)) := by decide
theorem test_table_word_dca : decodeTableWord 16 0x2C02 = some (.dca (.reg 2)) := by decide
theorem test_table_word_rset : decodeTableWord 16 0x0360 = some .rset := by decide
theorem test_table_word_undefined : decodeTableWord 16 0x0000 = none := by decide
/-- The first instruction after reset is LI, its immediate word 0. -/
theorem test_fetch_word_li : after (State.reset.withFetchWord 16 0x0201) (fun t => t.pc == 4 &&
      t.st == 0x2000) = true := by
  decide
/-- An instruction only the TMS 9940 has runs on it. -/
theorem test_fetch_word_liim : after (State.reset.withFetchWord 16 0x2C82) (fun t => t.st == 2) = true := by decide

/-! ## Interrupts, LOAD, RESET and idle, by R310 to R340 and the program P4 -/

/-- A state like `started`, with pins and vectors. -/
def pinned (p : Part) (st : Word) (pins : Pins) (cells : List (Word × Word)) : State :=
  let s := started p 0x0100 0x8300 st cells
  { s with dev := { s.dev with pins := pins } }

/-- Level 2 at mask 3: vector 0x0008; the old st, pc and wp in the new R15, R14, R13; the mask becomes 1. -/
theorem test_interrupt : after (pinned .tms9900 0xC003 { Pins.idle with intReq := some 2 }
    [(0x0008, 0x8340), (0x000A, 0x0500)]) (fun t =>
      t.wp == 0x8340 && t.pc == 0x0500 && t.st == 0xC001 && t.peekWord 0x835E == 0xC003 &&
      t.peekWord 0x835C == 0x0100 &&
        t.peekWord 0x835A == 0x8300 && t.inhibit) = true := by
  decide
/-- Level 4 at mask 3 waits: the instruction runs. -/
theorem test_interrupt_masked : after (pinned .tms9900 0x0003 { Pins.idle with intReq := some 4 } [(0x0100, 0x1000)])
    (fun t => t.pc == 0x0102) = true := by
  decide
/-- LOAD: vector 0xFFFC, whatever the mask is. -/
theorem test_load : after (pinned .tms9900 0xC00F { Pins.idle with load := true } [(0xFFFC, 0x8340),
      (0xFFFE, 0x0500)])
    (fun t => t.wp == 0x8340 && t.pc == 0x0500 && t.st == 0xC000) = true := by
  decide
/-- RESET released: vector 0. P1 step 1. -/
theorem test_reset : after { started .tms9900 0xAAAA 0x5554 0xFE0F [(0x0000, 0x83E0), (0x0002, 0x0100)] with
      dev := { Devices.reset with pins := { Pins.idle with reset := true } },
      env := [[.platform (.resetLine false)]] } (fun t =>
    t.wp == 0x83E0 && t.pc == 0x0100 && t.st == 0 && t.peekWord 0x83FE == 0xFE0F && t.peekWord 0x83FC == 0xAAAA &&
      t.peekWord 0x83FA == 0x5554) = true := by
  decide
/-- A TMS 9980 takes level 1 from code 011, through 0x0004. -/
theorem test_interrupt_9980 : after (pinned .tms9980 0x0001 { Pins.idle with intCode := 3 }
    [(0x0004, 0x0340), (0x0006, 0x0500)]) (fun t => t.wp == 0x0340 && t.pc == 0x0500 && t.st == 0) = true := by
  decide

/-! ## What happens between the bus cycles of an instruction, Hold, devices and parameters, by the rules named -/

/-- C @>9000,@>9000, with a DMA write between the two reads of the word: they differ (R78, D10). -/
theorem test_dma_between_reads : after
    { started .tms9900 0x0100 0x8300 0 [(0x0100, 0x8820), (0x0102, 0x9000), (0x0104, 0x9000), (0x9000, 7)] with
      during := [[], [], [], [], [.dmaWrite 0x9000 8]] }
    (fun t => t.flag .eq == false && t.flag .l == false && t.peekWord 0x9000 == 8 &&
      t.during == []) = true := by decide
/-- INC R1, with a DMA write between its read and its write: the write of INC stays (R79). -/
theorem test_dma_before_write : after
    { started .tms9900 0x0100 0x8300 0 [(0x0100, 0x0581), (0x8302, 7)] with
      during := [[], [], [.dmaWrite 0x8302 0x1234]] } (fun t => t.peekWord 0x8302 == 8) = true := by decide
/-- MOVB R1,@>A001,
      where words from 0xA000 on are a device window: the bus of a TMS 9900 reads a whole word and writes a
whole word, bit 0 not output (R61, R65). -/
theorem test_byte_to_device : after
    { started .tms9900 0x0100 0x8300 0 [(0x0100, 0xD801), (0x0102, 0xA001), (0x8302, 0x1234)] with
      cfg := { Platform.default .tms9900 with memMap := [{ base := 0xA000, size := 0x100, kind := .device }] } }
    (fun t => match t.dev.log with
      | [.devWriteWord a _, .devReadWord b] => a == 0xA000 && b == 0xA000
      | _ => false) = true := by decide
/-- A counter at 8, timer on, and STCR R2,4 of its low bits: a tick after the first bit is read gives 0110, which is
neither 8 nor 7 (R376, U13). -/
theorem test_torn_counter : after
    (let s := started .tms9940 0x0100 0x8300 0 [(0x0100, 0x3502), (0x8318, 0x0320)]
     { s with during := [[], [], [], [], [.dev .oscTick]],
              dev := { s.dev with chip := { OnChip.reset with dec := 8, decbuf := 9, timer := true } } })
    (fun t => t.peekWord 0x8304 == 0x0600 && t.dev.chip.dec == 7) = true := by decide

/-- A TMS 9940 with CB3 set and P14 at 0, at a word that jumps to itself (R374). -/
def heldAtP14 (halted : Bool) (int1 : Bool) : State :=
  let s := started .tms9940 0x0100 0x8300 3 [(0x0100, 0x10FF), (0x0004, 0x8320), (0x0006, 0x0500)]
  { s with halted := halted,
           dev := { s.dev with chip := { OnChip.reset with cb := 8 },
                               pins := { Pins.idle with p := 0xFFFFBFFF, int1 := int1 } } }

/-- P14 is HLD, and it holds the CPU (R374, R331). -/
theorem test_hold_at_p14 : step (heldAtP14 false false) = .next (heldAtP14 false false) := rfl
/-- In the standby circuit a request is acknowledged (R378). -/
theorem test_standby_interrupt : after (heldAtP14 true false) (fun t =>
    t.wp == 0x8320 && t.pc == 0x0500 && t.st == 0 && !t.halted) = true := by decide
/-- RESET released while HOLD is low: nothing of the CPU changes (R331). -/
theorem test_reset_waits_for_hold :
    let s := started .tms9900 0x0100 0x8300 0 []
    let t : State := { s with dev := { s.dev with resetDue := true, pins := { Pins.idle with hold := true } } }
    step t = .next t := rfl

/-- A system with one latch at CRU bit 5 that reads back inverted (R83). -/
def latched (w : Word) (b : Bool) : State :=
  let s := started .tms9900 0x0100 0x8300 0 [(0x0100, w)]
  { s with dev := { s.dev with cruDevices :=
    [{ bits := [b], ports := [{ addr := 5, input := some (.not (.bit 0)), output := [(0, .data)] }] }] } }

theorem test_latch_written : after (latched 0x1D05 false) (fun t =>
    t.dev.cruDevices.map CruDevice.bits == [[true]]) = true := by decide
theorem test_latch_read : after (latched 0x1F05 false) (fun t => t.flag .eq) = true := by decide

/-- A system with another UNDEFINED_OPCODE (D11), at the word 0x0211. -/
def undefinedAs (r : UndefinedRule) : State :=
  { started .tms9900 0x0100 0x8300 0 [(0x0100, 0x0211), (0x0102, 0x8000)] with
    cfg := { Platform.default .tms9900 with undefinedRule := r } }

theorem test_undefined_does_nothing : after (undefinedAs .noOperation) (fun t => t.pc == 0x0102) = true := by decide
theorem test_undefined_as_li : after (undefinedAs (.executeAs 0xFFEF 0)) (fun t =>
    t.pc == 0x0104 && t.peekWord 0x8302 == 0x8000) = true := by decide
/-- AI as one of AC_WRITERS (D20): 0x0FFF + 1 carries out of bit 11. -/
theorem test_ai_ac : after
    { started .tms9940 0x0100 0x8300 0 [(0x0100, 0x0221), (0x0102, 1), (0x8302, 0x0FFF)] with
      cfg := { Platform.default .tms9940 with acWriters := [.ai] } } (fun t => t.flag .ac) = true := by decide
/-- A value of DCA_FN (D21). -/
theorem test_dca_row : after
    { started .tms9940 0x0100 0x8300 0 [(0x0100, 0x2C01), (0x8302, 0x0A00)] with
      cfg := { Platform.default .tms9940 with
        dcaRows := [{ byte := 0x0A, c := false, ac := false, result := 0x55, carry := true }] } }
    (fun t => t.flag .c && t.peekWord 0x8302 == 0x5500) = true := by decide

/-- A system in which LREX pulls LOAD low, and releases it before the second step after it (R275, R276, D28). -/
def bootstrap (w : Word) : State :=
  { started .tms9900 0x0100 0x8300 0 [(0x0100, w)] with
    cfg := { Platform.default .tms9900 with
      extCtl := [{ code := 0b111, now := [.loadLine true], later := [[], [.loadLine false]] }] } }

theorem test_lrex_reaction : after (bootstrap 0x03E0) (fun t =>
    t.dev.pins.load && t.env == [[], [.platform (.loadLine false)]] && t.pc == 0x0102) = true := by decide
/-- CKON in the same system, which has no row for its code. -/
theorem test_ckon_no_reaction : after (bootstrap 0x03A0) (fun t => !t.dev.pins.load &&
      t.env == []) = true := by decide

/-! ## Instructions are well formed as R113, R122, R283 and R284 say: ill-formed terms are refused -/

theorem test_wf_index_r0 : (Instr.clr (.indexed 0)).wf .tms9900 = false := by decide
theorem test_wf_index_r0_dst : (Instr.mov (.reg 1) (.indexed 0)).wf .tms9980 = false := by decide
theorem test_wf_rset_9940 : Instr.rset.wf .tms9940 = false := by decide
theorem test_wf_ckon_9940 : Instr.ckon.wf .tms9940 = false := by decide
theorem test_wf_ckof_9940 : Instr.ckof.wf .tms9940 = false := by decide
theorem test_wf_lrex_9940 : Instr.lrex.wf .tms9940 = false := by decide
theorem test_wf_xop3_9940 : (Instr.xop 3 (.reg 1)).wf .tms9940 = false := by decide
theorem test_wf_xop4_9940 : (Instr.xop 4 (.reg 1)).wf .tms9940 = true := by decide
theorem test_wf_dca_9900 : (Instr.dca (.reg 1)).wf .tms9900 = false := by decide
theorem test_wf_dcs_9980 : (Instr.dcs (.reg 1)).wf .tms9980 = false := by decide
theorem test_wf_liim_9900 : (Instr.liim 0 1).wf .tms9900 = false := by decide
theorem test_wf_add : (Instr.a (.indexed 1) (.autoInc 0)).wf .tms9940 = true := by decide

/-! ## Witnesses: for every statement with hypotheses, a state and operands that meet them together. They apply to the
statement of the same name in Certificates/Slice0/Obligations.lean. A statement that is not named here has the one
      premise
that nothing comes between the bus cycles of an instruction: `witness_quiet`. -/

/-- A state at an instruction boundary, with an ADD and a pointer in R1. -/
def basic : State := started .tms9900 0x0100 0x8300 0xC003 [(0x0100, 0xA081), (0x8302, 0x9000), (0x9000, 0x1234)]

/-- The same with words 0x0000 to 0x00FF in ROM. -/
def withRom : State := { basic with cfg := { basic.cfg with memMap := [{ base := 0, size := 0x100, kind := .rom }] } }

theorem witness_quiet : basic.during = [] ∧ basic.dev.misdriven = none ∧ basic.env = [] := by decide
theorem witness_decode_of_encode : (Instr.xop 15 (.indexed 15)).wf .tms9940 = true := by decide
theorem witness_encode_of_decode : decode .tms9940 0x2CFE = .ok (.liim 31 2) := by decide

theorem witness_memory_access :
    basic.during = [] ∧ basic.cfg.part = .tms9900 ∧ basic.holdsWord 0xFFFF = true ∧ basic.holds 0xFFFF = true ∧
      basic.keepsWord 0 = true ∧ basic.keeps 0 = true := by
  decide
/-- In ROM a place holds and does not keep. -/
theorem witness_memory_access_rom :
    withRom.during = [] ∧ withRom.holdsWord 0xFF = true ∧ withRom.keeps 0xFF = false ∧ withRom.keepsWord 0xFF =
      false := by
  decide
/-- The other parts. -/
theorem witness_memory_access_parts :
    (State.resetOn .tms9980).during = [] ∧ (State.resetOn .tms9980).cfg.part = .tms9980 ∧
      (State.resetOn .tms9940).during = [] ∧ (State.resetOn .tms9940).cfg.part = .tms9940 := by
  decide
theorem witness_registers_and_fetch :
    basic.during = [] ∧ basic.holdsWord (BitVec.ofNat 16 (basic.wp.toNat + 2 * 15)) = true ∧
      basic.keepsWord (BitVec.ofNat 16 (basic.wp.toNat + 2 * 15)) = true ∧ basic.pc.getLsbD 0 = false ∧
      basic.holdsWord basic.pc = true := by
  decide
theorem witness_effective_address : basic.during = [] ∧ basic.holdsWord (regAddr basic 1) = true ∧ basic.holdsWord
      basic.pc = true := by decide
theorem witness_operand_read :
    basic.during = [] ∧ (effAddr (.autoInc 1) .word basic).2.holdsWord (readOperand16 (.autoInc 1) basic).addr =
      true ∧
      (effAddr (.autoInc 1) .byte basic).2.holds (readOperand8 (.autoInc 1) basic).addr = true := by
  decide

/-- A state whose next word is X R5, and R5 holds the given word. -/
def atX (w : Word) : State := started .tms9900 0x0100 0x8300 0 [(0x0100, 0x0485), (0x830A, w)]

theorem witness_step_runs_decoded :
    basic.ready ∧ basic.pc.getLsbD 0 = false ∧ basic.holdsWord basic.pc = true ∧
      decodeBytes .tms9900 [basic.peekByte basic.pc, basic.peekByte (basic.pc + 1)] =
        .ok (.a (.reg 1) (.reg 2), []) := by
  unfold State.ready; decide
theorem witness_step_runs_decoded_x :
    (atX 0x0581).ready ∧ (atX 0x0581).holdsWord (atX 0x0581).pc = true ∧
      decodeBytes .tms9900 [(atX 0x0581).peekByte 0x0100, (atX 0x0581).peekByte 0x0101] = .ok (.x (.reg 5), []) ∧
      decode .tms9900 (readOperand16 (.reg 5) (fetch ((atX 0x0581).setInhibit false)).2).value = .ok (.inc (.reg 1))
      := by
  unfold State.ready; decide
/-- By each rule for undefined words: the word 0x0211, which one of them makes 0x0201, and one 0x0000. -/
theorem witness_undefined_word_refused :
    ∀ r ∈ [UndefinedRule.refuse, .noOperation, .executeAs 0xFFEF 0, .executeAs 0 0], (undefinedAs r).ready ∧
      (undefinedAs r).cfg.undefinedRule = r ∧
      decode .tms9900 (fetch ((undefinedAs r).setInhibit false)).1 = .error (.undefinedOpcode 0x0211) ∧
      decode .tms9900 (0x0211 &&& 0xFFEF ||| 0) = .ok (.li 1) ∧
      decode .tms9900 (0x0211 &&& 0 ||| 0) = .error (.undefinedOpcode 0) := by
  unfold State.ready; decide
/-- The same of the word that X reads. -/
theorem witness_undefined_word_refused_x :
    ∀ r ∈ [UndefinedRule.refuse, .noOperation, .executeAs 0xFFEF 0, .executeAs 0 0],
      let s : State := { atX 0x0211 with cfg := { (atX 0x0211).cfg with undefinedRule := r } }
      s.ready ∧ decode .tms9900 (fetch (s.setInhibit false)).1 = .ok (.x (.reg 5)) ∧
        decode .tms9900 (readOperand16 (.reg 5) (fetch (s.setInhibit false)).2).value =
          .error (.undefinedOpcode 0x0211) := by
  unfold State.ready; decide

/-- A state about to jump to itself. -/
def spinning : State := started .tms9900 0x0100 0x8300 0x8000 [(0x0100, 0x10FF)]

theorem witness_step_keeps_invariant : spinning.Inv ∧ step spinning = .next spinning := by
  constructor
  · unfold State.Inv; decide
  · rfl
/-- A state about to clear the word at 0x0010, which is in ROM. -/
def clearingRom : State := { withRom with mem := put (put [] 0x0100 0x04E0) 0x0102 0x0010 }

theorem witness_rom_and_parameters_kept :
    (∃ t, step clearingRom = .next t) ∧
      (∀ batch later, clearingRom.env = batch :: later → ∀ a b, Event.hostLoad a b ∉ batch) ∧
      ∀ b : Word, samePlace clearingRom b 0x0010 → kindAt clearingRom.cfg b ≠ .ram := by
  refine ⟨⟨_, rfl⟩, fun _ _ h => (by cases h), fun b h => ?_⟩
  have e : b = 0x0010 := BitVec.eq_of_toNat_eq h
  subst e; decide
theorem witness_who_writes_what :
    (∃ t, exec (.clr (.reg 1)) basic = .next t) ∧ Instr.clr (.reg 1) ≠ .limi ∧
      (∀ x n, Instr.clr (.reg 1) ≠ .liim x n) ∧ Instr.clr (.reg 1) ≠ .rset ∧ Instr.clr (.reg 1) ≠ .rtwp ∧
      (∀ n o, Instr.clr (.reg 1) ≠ .xop n o) ∧ Instr.clr (.reg 1) ≠ .lwpi ∧ (∀ o, Instr.clr (.reg 1) ≠ .blwp o) ∧
      Instr.clr (.reg 1) ≠ .idle := by
  refine ⟨⟨_, rfl⟩, ?_, fun _ _ => ?_, ?_, ?_, fun _ _ => ?_, ?_, fun _ => ?_, ?_⟩ <;> exact Instr.noConfusion

/-- A TMS 9901 in clock mode, about to time out. -/
def timing : Psi :=
  { slot := 1, wired := true, sel := true, mask := 0x8, om := 0, ol := 0, clkload := 5, clkctr := 1, clkread := 2,
    clkint := true, s0 := false, intIn := 0x3F, pIn := 0xFFFF }

/-- A state whose next event drives pin P3 of a TMS 9901 that is in output mode. -/
def misdriving : State :=
  let s := { started .tms9900 0x0100 0x8300 0 [(0x0100, 0x1000)] with env := [[.platform (.dev (.psiP 0 3 true))]] }
  { s with dev := { s.dev with psi := [{ timing with om := 8 }] } }

/-- Each way a step ends: a next state, an undefined word, a pin in output mode driven before the step or in it. -/
theorem witness_only_refusals :
    (spinning.dev.misdriven = none ∧ step spinning = .next spinning) ∧ misdriving.dev.misdriven = none ∧
      step misdriving = .refused (.psiOutputDriven 0 3) ∧
      step { misdriving with env := [], during := [[.dev (.psiP 0 3 false)]] } = .refused (.psiOutputDriven 0 3) ∧
      step { misdriving with
          env := []
          cfg := { misdriving.cfg with extCtl := [{ code := 2, now := [.dev (.psiP 0 3 true)], later := [] }] }
          mem := put [] 0x0100 0x0340 } = .refused (.psiOutputDriven 0 3) ∧
      step (undefinedAs .refuse) = .refused (.undefinedOpcode 0x0211) := by
  exact ⟨⟨by decide, rfl⟩, by decide, rfl, rfl, rfl, rfl⟩

theorem witness_context_switch : basic.during = [] ∧ basic.holdsWord 0xFFFE = true ∧ basic.holdsWord (0xFFFE + 2) =
      true := by decide
theorem witness_switch_and_return :
    basic.Inv ∧ basic.during = [] ∧ (contextSwitch 0x9000 none basic).keepsWord ((contextSwitch 0x9000 none
      basic).wp + 26) = true ∧
      (contextSwitch 0x9000 none basic).keepsWord ((contextSwitch 0x9000 none basic).wp + 28) = true ∧
      (contextSwitch 0x9000 none basic).keepsWord ((contextSwitch 0x9000 none basic).wp + 30) = true := by
  unfold State.Inv; decide
theorem witness_rtwp_result :
    basic.during = [] ∧ basic.holdsWord (regAddr basic 15) = true ∧ basic.holdsWord (regAddr basic 14) = true ∧
      basic.holdsWord (regAddr basic 13) = true := by
  decide
theorem witness_blwp_result :
    basic.during = [] ∧ (effAddr (.ind 1) .word basic).2.holdsWord (effAddr (.ind 1) .word basic).1 = true ∧
      basic.holdsWord ((effAddr (.ind 1) .word basic).1 + 2) = true := by
  decide
theorem witness_xop_result :
    basic.during = [] ∧ (readOperand16 (.ind 1) basic).state.holdsWord (BitVec.ofNat 16 (0x40 + 4 * 15)) = true ∧
      basic.holdsWord (BitVec.ofNat 16 (0x40 + 4 * 15) + 2) = true := by
  decide

/-- A state on which level n is requested, at mask 3. -/
def requested (n : BitVec 4) : State := pinned .tms9900 0x0003 { Pins.idle with intReq := some n } []

/-- The level that equals the mask, and level 0. -/
theorem witness_interrupt_taken :
    ∀ n ∈ [(0 : BitVec 4), 3], (requested n).env = [] ∧ (requested n).during = [] ∧
      (requested n).dev.misdriven = none ∧ resetHeld .tms9900 (requested n).dev.pins = false ∧
      (requested n).dev.resetDue = false ∧ (requested n).held = false ∧ (requested n).xword = none ∧
      (requested n).inhibit = false ∧ loadReq .tms9900 (requested n).dev.pins = false ∧
      irq .tms9900 (requested n).dev = some n.toNat ∧ n.toNat ≤ (requested n).maskLevel ∧
      (requested n).holdsWord (BitVec.ofNat 16 (4 * n.toNat)) = true := by
  decide
/-- A TMS 9940 that is halted takes level 1 while it holds. -/
theorem witness_interrupt_taken_held :
    (heldAtP14 true false).env = [] ∧ (heldAtP14 true false).during = [] ∧
      (heldAtP14 true false).dev.misdriven = none ∧ resetHeld .tms9940 (heldAtP14 true false).dev.pins = false ∧
      (heldAtP14 true false).dev.resetDue = false ∧ (heldAtP14 true false).held = true ∧
      (heldAtP14 true false).cfg.part = .tms9940 ∧ (heldAtP14 true false).halted = true ∧
      (heldAtP14 true false).xword = none ∧ (heldAtP14 true false).inhibit = false ∧
      loadReq .tms9940 (heldAtP14 true false).dev.pins = false ∧
      irq .tms9940 (heldAtP14 true false).dev = some 1 ∧ 1 ≤ (heldAtP14 true false).maskLevel ∧
      (heldAtP14 true false).holdsWord (BitVec.ofNat 16 (4 * 1)) = true := by
  decide

/-- A state on which LOAD is low. -/
def loading : State := pinned .tms9900 0x0003 { Pins.idle with load := true } []

theorem witness_load_taken :
    loading.env = [] ∧ loading.during = [] ∧ loading.dev.misdriven = none ∧ resetHeld .tms9900 loading.dev.pins =
      false ∧ loading.dev.resetDue = false ∧
      loading.held = false ∧ loading.xword = none ∧ loading.inhibit = false ∧
      loadReq .tms9900 loading.dev.pins = true ∧ loading.holdsWord 0xFFFC = true ∧ loading.holdsWord 0xFFFE = true
      := by
  decide

/-- A state whose RESET sequence is due, for a part and a choice of RESET_ST_FLAGS. -/
def resetting (p : Part) (keep : Bool) : State :=
  let s := started p 0x0100 0x8300 0xC003 []
  { s with cfg := { s.cfg with keepResetFlags := keep }, dev := { s.dev with resetDue := true } }

theorem witness_reset_taken :
    ∀ p ∈ [Part.tms9900, .tms9980, .tms9940], ∀ keep : Bool, (resetting p keep).env = [] ∧
      (resetting p keep).during = [] ∧ (resetting p keep).dev.misdriven = none ∧
      (resetting p keep).busGranted = false ∧ resetHeld p (resetting p keep).dev.pins = false ∧ (resetting p
      keep).dev.resetDue = true ∧
      (resetting p keep).cfg.keepResetFlags = keep ∧ (resetting p keep).holdsWord 0 = true ∧
      (resetting p keep).holdsWord 2 = true := by
  decide

/-- A shielded state, on which LOAD and level 0 are requested. -/
def shielded : State :=
  let s := pinned .tms9900 0x0003 { Pins.idle with load := true, intReq := some 0 } []
  { s with inhibit := true }

theorem witness_inhibit_shields_one_instruction :
    shielded.env = [] ∧ resetHeld .tms9900 shielded.dev.pins = false ∧ shielded.dev.resetDue = false ∧
      shielded.held = false ∧ shielded.xword = none ∧ shielded.inhibit = true ∧ shielded.halted = false := by
  decide

theorem witness_nothing_happens_reset :
    (pinned .tms9900 0 { Pins.idle with reset := true } []).env = [] ∧
      (pinned .tms9900 0 { Pins.idle with reset := true } []).dev.misdriven = none ∧ resetHeld .tms9900 { Pins.idle
      with reset := true } = true := by
  decide
theorem witness_nothing_happens_hold :
    resetHeld .tms9900 { Pins.idle with hold := true } = false ∧
      (pinned .tms9900 0 { Pins.idle with hold := true } []).env = [] ∧
      (pinned .tms9900 0 { Pins.idle with hold := true } []).dev.misdriven = none ∧
      (pinned .tms9900 0 { Pins.idle with hold := true } []).held = true := by
  decide
/-- Running with a request, and halted with none. -/
theorem witness_nothing_happens_hold_9940 :
    ∀ s ∈ [heldAtP14 false false, heldAtP14 true true], s.env = [] ∧ s.dev.misdriven = none ∧
      resetHeld .tms9940 s.dev.pins = false ∧ s.held = true ∧ s.cfg.part = .tms9940 ∧ s.dev.resetDue = false ∧
      (s.halted = false ∨ irq .tms9940 s.dev = none) := by
  decide
/-- Halted, with a request of the level just above the mask. -/
def idling : State :=
  let s := pinned .tms9900 0x0003 { Pins.idle with intReq := some 4 } []
  { s with halted := true }

theorem witness_nothing_happens_halted :
    idling.env = [] ∧ idling.dev.misdriven = none ∧ resetHeld .tms9900 idling.dev.pins = false ∧ idling.dev.resetDue
      = false ∧ idling.held = false ∧
      idling.xword = none ∧ idling.halted = true ∧ loadReq .tms9900 idling.dev.pins = false ∧
      ∀ n, irq .tms9900 idling.dev = some n → idling.maskLevel < n := by
  refine ⟨by decide, by decide, by decide, by decide, by decide, by decide, by decide, by decide, fun n h => ?_⟩
  have e : (4 : Nat) = n := Option.some.inj h
  subst e; decide

theorem witness_abs_result_negative : (readOperand16 (.reg 0) (started .tms9900 0 0x8300 0 [(0x8300,
      0x8000)])).value.toInt < 0 := by
  decide
theorem witness_abs_result_zero : 0 ≤ (readOperand16 (.reg 0) (started .tms9900 0 0x8300 0 [])).value.toInt := by
      decide

/-- R1 is the divisor, R2 and R3 the dividend. -/
def dividing (divisor high : Word) : State := started .tms9900 0 0x8300 0 [(0x8302, divisor), (0x8304, high),
      (0x8306, 7)]

theorem witness_div_result_overflow :
    (readOperand16 (.reg 1) (dividing 5 5)).value.toNat ≤
      (readReg 2 (readOperand16 (.reg 1) (dividing 5 5)).state).1.toNat := by
  decide
theorem witness_div_result_divides :
    (readReg 2 (readOperand16 (.reg 1) (dividing 6 5)).state).1.toNat <
      (readOperand16 (.reg 1) (dividing 6 5)).value.toNat := by
  decide
/-- AC: the members of AC_WRITERS by default, and the others where the parameter names them. -/
theorem witness_arithmetic_ac :
    (State.resetOn .tms9940).cfg.part = .tms9940 ∧ (State.resetOn .tms9940).during = [] ∧
      ∀ op ∈ [ArithOp.a, .ab, .s, .sb], op ∈ (State.resetOn .tms9940).cfg.acWriters := by
  decide
theorem witness_arithmetic_ac_others :
    let s : State := { State.resetOn .tms9940 with
      cfg := { Platform.default .tms9940 with acWriters := [.ai, .inc, .inct, .dec, .dect, .neg] } }
    s.cfg.part = .tms9940 ∧ s.during = [] ∧
      ∀ op ∈ [ArithOp.ai, .inc, .inct, .dec, .dect, .neg], op ∈ s.cfg.acWriters := by
  decide
/-- DCA and DCS: the default functions, and a row for the operand of `test_dca_row`. -/
theorem witness_dca_and_dcs :
    (State.resetOn .tms9940).during = [] ∧ (State.resetOn .tms9940).cfg.dcaRows = [] ∧
      (State.resetOn .tms9940).cfg.dcsRows = [] := by
  decide
theorem witness_dca_and_dcs_rows :
    let row : BcdRow := { byte := 0x0A, c := false, ac := false, result := 0x55, carry := true }
    let s : State := { started .tms9940 0x0100 0x8300 0 [(0x8302, 0x0A00)] with
      cfg := { Platform.default .tms9940 with dcaRows := [row], dcsRows := [row] } }
    s.during = [] ∧ s.cfg.dcaRows = row :: [] ∧ s.cfg.dcsRows = row :: [] ∧
      row.byte = (readOperand8 (.reg 1) s).value ∧ row.c = s.flag .c ∧ row.ac = s.flag .ac := by
  decide
theorem witness_decimal_adjust :
    (0x99#8).toNat % 16 ≤ 9 ∧ (0x99#8).toNat / 16 ≤ 9 ∧ (0x00#8).toNat % 16 ≤ 9 ∧ (0x00#8).toNat / 16 ≤ 9 := by
  decide
theorem witness_shift_count : basic.during = [] ∧ (15#4) ≠ 0 ∧ basic.holdsWord basic.wp = true ∧ (basic.peekWord
      basic.wp).toNat % 16 = 0 := by decide
theorem witness_shift_count_r0 : (started .tms9900 0 0x8300 0 [(0x8300, 0xFFF1)]).holdsWord 0x8300 = true := by decide
/-- Both ways of a conditional jump. -/
theorem witness_conditional_jumps :
    basic.pc.getLsbD 0 = false ∧ basic.flag .a = true ∧ (pinned .tms9900 0 Pins.idle []).flag .a = false := by
  decide
theorem witness_liim_result : (State.resetOn .tms9940).cfg.part = .tms9940 := by decide
/-- EXT_CTL: a system with no reaction to the code, and one whose first row has it. -/
theorem witness_external_instructions :
    basic.during = [] ∧ (∀ code : BitVec 3, ∀ r ∈ basic.cfg.extCtl, r.code ≠ code) ∧
      (bootstrap 0x03E0).during = [] ∧
      (bootstrap 0x03E0).cfg.extCtl = { code := 0b111, now := [.loadLine true], later := [[],
      [.loadLine false]] } :: [] := by
  refine ⟨rfl, fun _ r h => (by cases h), rfl, rfl⟩
theorem witness_idle_result :
    let r : ExtReaction := { code := 0b010, now := [.holdLine true], later := [] }
    let s : State := { basic with cfg := { basic.cfg with extCtl := [r] } }
    s.during = [] ∧ s.cfg.extCtl = r :: [] ∧ r.code = 0b010 := ⟨rfl, rfl, rfl⟩
theorem witness_cru_lengths :
    (if (8#4) = 0 then 16 else (8#4).toNat) ≤ 8 ∧ 8 < (if (9#4) = 0 then 16 else (9#4).toNat) ∧
      8 < (if (0#4) = 0 then 16 else (0#4).toNat) := by
  decide
/-- A held line at the wrapped address, and a device. -/
theorem witness_cru_transfers :
    basic.cfg.part ≠ .tms9940 ∧ (lines basic [(0, true)]).during = [] ∧ (lines basic [(0, true)]).dev.psi = [] ∧
      (lines basic [(0, true)]).dev.cruLevel ((4095 + 1) % 4096) = some true ∧
      (latched 0 false).dev.cruLevel ((5 + 0) % 4096) = some true := by
  decide
/-- Bit 6 is no device's; bit 5 is. -/
theorem witness_cru_transfers_no_device :
    (latched 0 false).during = [] ∧ (latched 0 false).cfg.part ≠ .tms9940 ∧
      (∀ p ∈ (latched 0 false).dev.psi, 6 / 32 ≠ p.slot) ∧
      (∀ d ∈ (latched 0 false).dev.cruDevices, ∀ q ∈ d.ports, q.addr ≠ 6) ∧
      ¬ ∀ d ∈ (latched 0 false).dev.cruDevices, ∀ q ∈ d.ports, q.addr ≠ 5 := by
  decide
theorem witness_general_purpose_flags : (15 : Nat) < 16 ∧ (14 : Nat) ≠ 15 ∧
    (State.resetOn .tms9940).during = [] ∧ (State.resetOn .tms9940).cfg.part = .tms9940 := by
  decide
theorem witness_chip_pins :
    (State.resetOn .tms9940).during = [] ∧ (State.resetOn .tms9940).cfg.part = .tms9940 ∧
    (State.resetOn .tms9940).dev.chip.special 0 = false ∧ (State.resetOn .tms9940).dev.chip.special 31 = false ∧
      (State.resetOn .tms9940).dev.chip.special 17 = false ∧ (State.resetOn .tms9940).dev.chip.counting = false := by
  decide
/-- A counter just loaded with a value. -/
def loaded (n : BitVec 14) : OnChip := { OnChip.reset with dec := n, decbuf := n }

/-- The smallest value: the first tick requests. -/
theorem witness_decrementer_one :
    (loaded 1#14).decbuf ≠ 0 ∧ (loaded 1#14).dec = 1 ∧ (loaded 1#14).decint = false ∧ 0 < (loaded 1#14).decbuf.toNat
      := by
  decide
theorem witness_decrementer :
    (loaded 3#14).decbuf ≠ 0 ∧ (loaded 3#14).dec ≠ 1 ∧ (loaded 3#14).decint = false ∧
      (loaded 3#14).dec = (loaded 3#14).decbuf ∧ 2 < (loaded 3#14).decbuf.toNat := by
  decide
/-- A tick before the cycle of bit 13. -/
theorem witness_decrementer_read :
    let s : State := { State.resetOn .tms9940 with during := [[.dev .oscTick], []] }
    (13 : Nat) < 14 ∧ s.cfg.part = .tms9940 ∧ s.during = [MidEvent.dev .oscTick] :: [[]] := by
  decide
theorem witness_decrementer_off : (loaded 0#14).decbuf = 0 := by decide

theorem witness_psi_clock :
    timing.clkctr = 1 ∧ { timing with clkctr := 0 }.clkctr ≠ 1 ∧ timing.clockMode = true ∧
      { timing with s0 := true }.clockMode = false ∧ { timing with sel := false }.sel = false ∧ timing.sel = true :=
      by
  decide
theorem witness_psi_interrupt : timing.irq = some 3 := by decide
/-- A system with a TMS 9901 in clock mode, number 0, and one outside it, number 1. -/
def withPsi : State :=
  { basic with dev := { basic.dev with psi := [timing, { timing with slot := 2, wired := false, sel := false }] } }

theorem witness_psi_interrupt_and_reset :
    withPsi.during = [] ∧ withPsi.cfg.part ≠ .tms9940 ∧ withPsi.dev.psi[0]? = some timing ∧ timing.sel = true ∧
      withPsi.dev.psi[1]? = some { timing with slot := 2, wired := false, sel := false } := by
  decide
theorem witness_load_workspace_and_mask : (State.resetOn .tms9940).cfg.part = .tms9940 := by decide

end Sys2Proof.Tests
end

section
/-! PROOFS. What the ordinary work of an instruction can do, said once: a predicate that a memory cycle, a CRU cycle, a
new `pc` and a result flag each keep is kept by every instruction but the eight that write `wp`, the mask, X, `inhibit`
or the Halt state. Families of statements about all instructions are instances of it. -/

namespace Sys2Proof

/-- The instructions that write none of `wp`, the interrupt mask, X, `inhibit` and the Halt state (R21, R133, R314,
R340). -/
def Instr.ordinary : Instr → Bool
  | .lwpi | .limi | .idle | .rset | .rtwp | .blwp _ | .xop _ _ | .liim _ _ => false
  | _ => true

end Sys2Proof

namespace Sys2Proof.Machine

/-- The next state of an outcome, if it has one, meets `P`. -/
def NextMeets (P : State → Prop) : Host.Outcome State Fault Refusal → Prop
  | .next t => P t
  | .fault _ => True
  | .refused _ => True

theorem NextMeets.of_eq {P : State → Prop} {o : Host.Outcome State Fault Refusal} {t : State} (h : NextMeets P o)
    (e : o = .next t) : P t := by
  subst e; exact h

/-- Each elementary operation of an ordinary instruction keeps `P`: the cycles of memory, of the CRU and of the
external codes with what comes before them from outside, a new `pc`, the word X reads, a free value, and a result
flag. X is no result flag, and AC is one on the TMS 9940 only (R39). -/
structure Closed (P : State → Prop) : Prop where
  readWord : ∀ {s : State} {a : Word}, P s → P (readWord a s).2
  writeWord : ∀ {s : State} {a v : Word}, P s → P (writeWord a v s)
  cruIn : ∀ {s : State} {a : Nat}, P s → P (cruIn a s).2
  cruOut : ∀ {s : State} {a : Nat} {b : Bool}, P s → P (cruOut a b s)
  extCtl : ∀ {s : State} {code : BitVec 3}, P s → P (extCtl code s)
  setPc : ∀ {s : State} {v : Word}, P s → P (s.setPc v)
  setXword : ∀ {s : State} {w : Option Word}, P s → P (s.setXword w)
  useFree : ∀ {s : State} {n : Nat}, P s → P (s.useFree n)
  setFlag : ∀ {s : State} (f : Flag) {b : Bool}, f ≠ .x → f ≠ .ac → P s → P (s.setFlag f b)
  setAc : ∀ {s : State} {b : Bool}, s.cfg.part = .tms9940 → P s → P (s.setFlag .ac b)

namespace Closed

variable {P : State → Prop} {s : State} (c : Closed P)
include c

/-! ## Registers and operands -/

theorem fetch (h : P s) : P (fetch s).2 := c.setPc (c.readWord h)

theorem readReg {r : Reg} (h : P s) : P (readReg r s).2 := c.readWord h

theorem writeReg {r : Reg} {v : Word} (h : P s) : P (writeReg r v s) := c.writeWord h

theorem effAddr {o : Operand} {z : Size} (h : P s) : P (effAddr o z s).2 := by
  cases o with
  | reg r => exact h
  | ind r => exact c.readReg h
  | direct => exact c.fetch h
  | indexed r => exact c.readReg (c.fetch h)
  | autoInc r => exact c.writeReg (c.readReg h)

theorem readOperand16 {o : Operand} (h : P s) : P (readOperand16 o s).state := c.readWord (c.effAddr h)

theorem readOperand8 {o : Operand} (h : P s) : P (readOperand8 o s).state := c.readWord (c.effAddr h)

theorem writeOperand8 {d : Fetched 8} {b : Byte} (h : P s) : P (writeOperand8 d b s) := c.writeWord h

theorem shiftCount {cnt : BitVec 4} (h : P s) : P (shiftCount cnt s).2 := by
  unfold Machine.shiftCount
  split
  · exact c.readReg h
  · exact h

/-! ## Flags -/

theorem setC {b : Bool} (h : P s) : P (s.setFlag .c b) := c.setFlag .c (by decide) (by decide) h

theorem setOv {b : Bool} (h : P s) : P (s.setFlag .ov b) := c.setFlag .ov (by decide) (by decide) h

theorem setEq {b : Bool} (h : P s) : P (s.setFlag .eq b) := c.setFlag .eq (by decide) (by decide) h

theorem setLAE {w : Nat} {v : BitVec w} (h : P s) : P (setLAE v s) :=
  c.setEq (c.setFlag .a (by decide) (by decide) (c.setFlag .l (by decide) (by decide) h))

theorem setCmp {w : Nat} {a b : BitVec w} (h : P s) : P (setCmp a b s) :=
  c.setEq (c.setFlag .a (by decide) (by decide) (c.setFlag .l (by decide) (by decide) h))

theorem setParity {b : Byte} (h : P s) : P (setParity b s) := c.setFlag .op (by decide) (by decide) h

theorem setHalfCarry {op : ArithOp} {b : Bool} (h : P s) : P (setHalfCarry op b s) := by
  unfold Machine.setHalfCarry
  split
  next part =>
    split
    · exact c.setAc part h
    · exact c.useFree (c.setAc part h)
  next => exact h

theorem arithFlags {w : Nat} {op : ArithOp} {a b : BitVec w} {cin : Bool} (h : P s) : P (arithFlags op a b cin s) :=
  c.setHalfCarry (c.setOv (c.setC h))

/-! ## The context switches, for a predicate that a new `wp` keeps too -/

theorem contextSwitch (wp : ∀ {t : State} {v : Word}, P t → P (t.setWp v)) {v : Word} {link : Option Word} (h : P s) :
    P (contextSwitch v link s) := by
  cases link with
  | none => exact c.setPc (wp (c.readWord (c.writeWord (c.writeWord (c.writeWord (c.readWord h))))))
  | some a => exact c.setPc (wp (c.readWord (c.writeWord (c.writeWord (c.writeWord (c.writeWord (c.readWord h)))))))

/-! ## Parts that several instructions share -/

theorem jumpIf {cond : Bool} {disp : BitVec 8} (h : P s) : P (jumpIf cond disp s) := by
  unfold Machine.jumpIf
  split
  · exact c.setPc h
  · exact h

theorem shiftRight {f : Word → Nat → Word} {cnt : BitVec 4} {w : Reg} (h : P s) : P (shiftRight f cnt w s) :=
  c.setLAE (c.setC (c.writeReg (c.shiftCount (c.readReg h))))

theorem cruSend {base n : Nat} {v : Word} (h : P s) : P (cruSend base n v s) := by
  induction n with
  | zero => exact h
  | succ n ih => rw [cruSend_succ]; exact c.cruOut ih

theorem cruReceive {base n : Nat} (h : P s) : P (cruReceive base n s).2 := by
  induction n with
  | zero => exact h
  | succ n ih => rw [cruReceive_succ]; exact c.cruIn ih

/-! ## The instructions whose meaning has cases -/

theorem execAbs {dst : Operand} (h : P s) : NextMeets P (execAbs dst s) := by
  have flags {v : Word} {b : Bool} : P (((Machine.setLAE v (Machine.readOperand16 dst s).state).setFlag .ov b).setFlag
      .c false) := c.setC (c.setOv (c.setLAE (c.readOperand16 h)))
  unfold Machine.execAbs
  simp only [NextMeets]
  split
  · exact c.writeWord flags
  · exact flags

theorem execDiv {w : Reg} {src : Operand} (h : P s) : NextMeets P (execDiv w src s) := by
  have high : P (Machine.readReg w (Machine.readOperand16 src s).state).2 := c.readReg (c.readOperand16 h)
  unfold Machine.execDiv
  simp only []
  split
  · exact c.setOv high
  · exact c.writeWord (c.writeReg (c.setOv (c.readWord high)))

theorem execLdcr {cnt : BitVec 4} {src : Operand} (h : P s) : NextMeets P (execLdcr cnt src s) := by
  unfold Machine.execLdcr
  simp only []
  split
  · exact c.setParity (c.setLAE (c.cruSend (c.readReg (c.readOperand8 h))))
  · exact c.setLAE (c.cruSend (c.readReg (c.readOperand16 h)))

theorem execStcr {cnt : BitVec 4} {dst : Operand} (h : P s) : NextMeets P (execStcr cnt dst s) := by
  unfold Machine.execStcr
  simp only []
  split
  · exact c.setParity (c.setLAE (c.writeOperand8 (c.cruReceive (c.readReg (c.readOperand8 h)))))
  · exact c.setLAE (c.writeWord (c.cruReceive (c.readReg (c.readOperand16 h))))

/-! ## Every ordinary instruction -/

/-- Each line is the instruction's meaning, its last operation first. -/
theorem exec_ordinary (i : Instr) (hi : i.ordinary = true) (h : P s) : NextMeets P (exec i s) := by
  cases i with
  | lwpi | limi | idle | rset | rtwp | blwp _ | xop _ _ | liim _ _ => cases hi
  | li _ => exact c.setLAE (c.writeReg (c.fetch h))
  | ai _ => exact c.setLAE (c.writeReg (c.arithFlags (c.readReg (c.fetch h))))
  | andi _ | ori _ => exact c.setLAE (c.writeReg (c.readReg (c.fetch h)))
  | ci _ => exact c.setCmp (c.readReg (c.fetch h))
  | stwp _ | stst _ => exact c.writeReg h
  | ckon | ckof | lrex => exact c.extCtl h
  | b _ => exact c.setPc (c.readOperand16 h)
  | bl _ => exact c.setPc (c.writeReg (c.readOperand16 h))
  | x _ => exact c.setXword (c.readOperand16 h)
  | clr _ | seto _ | swpb _ => exact c.writeWord (c.readOperand16 h)
  | inv _ => exact c.setLAE (c.writeWord (c.readOperand16 h))
  | neg _ | inc _ | inct _ | dec _ | dect _ => exact c.setLAE (c.writeWord (c.arithFlags (c.readOperand16 h)))
  | abs _ => exact c.execAbs h
  | sra _ _ | srl _ _ | src _ _ => exact c.shiftRight h
  | sla _ _ => exact c.setLAE (c.setOv (c.setC (c.writeReg (c.shiftCount (c.readReg h)))))
  | jmp _ | jlt _ | jle _ | jeq _ | jhe _ | jgt _ | jne _ | jnc _ | joc _ | jno _ | jl _ | jh _ | jop _ =>
    exact c.jumpIf h
  | sbo _ | sbz _ => exact c.cruOut (c.readReg h)
  | tb _ => exact c.setEq (c.cruIn (c.readReg h))
  | coc _ _ | czc _ _ => exact c.setEq (c.readReg (c.readOperand16 h))
  | xor _ _ => exact c.setLAE (c.writeReg (c.readReg (c.readOperand16 h)))
  | ldcr _ _ => exact c.execLdcr h
  | stcr _ _ => exact c.execStcr h
  | mpy _ _ => exact c.writeWord (c.writeReg (c.readReg (c.readOperand16 h)))
  | div _ _ => exact c.execDiv h
  | a _ _ | s _ _ => exact c.setLAE (c.writeWord (c.arithFlags (c.readOperand16 (c.readOperand16 h))))
  | ab _ _ | sb _ _ =>
    exact c.setParity (c.setLAE (c.writeOperand8 (c.arithFlags (c.readOperand8 (c.readOperand8 h)))))
  | c _ _ => exact c.setCmp (c.readOperand16 (c.readOperand16 h))
  | cb _ _ => exact c.setParity (c.setCmp (c.readOperand8 (c.readOperand8 h)))
  | mov _ _ | soc _ _ | szc _ _ => exact c.setLAE (c.writeWord (c.readOperand16 (c.readOperand16 h)))
  | movb _ _ | socb _ _ | szcb _ _ =>
    exact c.setParity (c.setLAE (c.writeOperand8 (c.readOperand8 (c.readOperand8 h))))
  | dca _ | dcs _ => exact c.setParity (c.setLAE (c.setC (c.writeOperand8 (c.readOperand8 h))))

end Closed

end Sys2Proof.Machine
end

section
/-! PROOFS. The invariant of the machine (O12): the part of it that each operation keeps, and what keeps it. -/

namespace Sys2Proof.Machine

/-! ## Words with only the bits of a mask -/

theorem masked_iff (v m : Word) : v &&& ~~~m = 0 ↔ ∀ k, v.getLsbD k = true → m.getLsbD k = true := by
  constructor
  · intro h k hk
    have hb : (v &&& ~~~m).getLsbD k = false := by simp [h]
    have hk16 : k < 16 := BitVec.lt_of_getLsbD hk
    simpa [hk, hk16] using hb
  · intro h
    apply BitVec.eq_of_getLsbD_eq
    intro k hk
    by_cases hv : v.getLsbD k = true
    · simp [h k hv]
    · simp [Bool.eq_false_iff.mpr hv]

theorem masked_or {v u m : Word} (hv : v &&& ~~~m = 0) (hu : u &&& ~~~m = 0) : (v ||| u) &&& ~~~m = 0 := by
  rw [masked_iff] at *
  intro k hk
  rw [BitVec.getLsbD_or, Bool.or_eq_true] at hk
  exact hk.elim (hv k) (hu k)

theorem masked_and {v m : Word} (u : Word) (hv : v &&& ~~~m = 0) : (v &&& u) &&& ~~~m = 0 := by
  rw [masked_iff] at *
  intro k hk
  rw [BitVec.getLsbD_and, Bool.and_eq_true] at hk
  exact hv k hk.1

theorem masked_and_self (v m : Word) : (v &&& m) &&& ~~~m = 0 := by
  rw [masked_iff]
  intro k hk
  rw [BitVec.getLsbD_and, Bool.and_eq_true] at hk
  exact hk.2

theorem masked_withBit {v m : Word} {k : Nat} (b : Bool) (hv : v &&& ~~~m = 0) (hm : m.getLsbD k = true) :
    withBit v k b &&& ~~~m = 0 := by
  rw [masked_iff] at *
  intro j hj
  rw [withBit_getLsbD _ _ _ _ (BitVec.lt_of_getLsbD hm)] at hj
  by_cases e : j = k
  · exact e ▸ hm
  · exact hv j (by simpa [e] using hj)

/-- A flag exists on a part (R28, R34): X not on the TMS 9940, AC there only. -/
theorem stImpl_flag (p : Part) (f : Flag) (hx : f = .x → p ≠ .tms9940) (hac : f = .ac → p = .tms9940) :
    (stImpl p).getLsbD (flagBit f) = true := by
  cases f with
  | x => cases p with
    | tms9940 => exact absurd rfl (hx rfl)
    | _ => decide
  | ac => rw [hac rfl]; decide
  | _ => cases p <;> decide

/-! ## The part of the invariant that every operation keeps -/

/-- The invariant but for the pins of the TMS 9901s, which `settle` tests at the end of a step: `pc` and `wp` are even,
`st` has only bits that exist, memory is canonical and within the address space. -/
structure State.Sound (s : State) : Prop where
  pcEven : s.pc.getLsbD 0 = false
  wpEven : s.wp.getLsbD 0 = false
  stBits : s.st &&& ~~~stImpl s.cfg.part = 0
  memWf : Memory.wf s.mem = true
  memBelow : Memory.below s.mem (busSize s.cfg.part) = true

theorem State.inv_iff (s : State) : s.Inv ↔ s.Sound ∧ s.dev.misdriven = none := by
  constructor
  · rintro ⟨hpc, hwp, hst, hwf, hbelow, hdriven⟩
    exact ⟨⟨hpc, hwp, hst, hwf, hbelow⟩, hdriven⟩
  · rintro ⟨⟨hpc, hwp, hst, hwf, hbelow⟩, hdriven⟩
    exact ⟨hpc, hwp, hst, hwf, hbelow, hdriven⟩

theorem cruIn_mem_busCycle (a : Nat) (s : State) : (cruIn a s).2.mem = s.busCycle.mem := by
  unfold cruIn; split <;> simp

theorem cruOut_mem_busCycle (a : Nat) (b : Bool) (s : State) : (cruOut a b s).mem = s.busCycle.mem := by
  unfold cruOut; split <;> simp

theorem extCtl_mem_busCycle (code : BitVec 3) (s : State) : (extCtl code s).mem = s.busCycle.mem := by
  simp [extCtl]

namespace State.Sound

variable {s t : State}

/-- The state matters only through the parameters, `pc`, `wp`, `st` and memory. -/
theorem congr (h : s.Sound) (same : t.cfg = s.cfg ∧ t.pc = s.pc ∧ t.wp = s.wp ∧ t.st = s.st ∧ t.mem = s.mem) :
    t.Sound := by
  obtain ⟨cfg, pc, wp, st, mem⟩ := same
  exact ⟨pc ▸ h.pcEven, wp ▸ h.wpEven, cfg ▸ st ▸ h.stBits, mem ▸ h.memWf, cfg ▸ mem ▸ h.memBelow⟩

/-- Where only memory can differ, what is left to show is about memory. -/
theorem of_mem (h : s.Sound) (same : t.cfg = s.cfg ∧ t.pc = s.pc ∧ t.wp = s.wp ∧ t.st = s.st)
    (wf : Memory.wf t.mem = true) (below : Memory.below t.mem (busSize s.cfg.part) = true) : t.Sound := by
  obtain ⟨cfg, pc, wp, st⟩ := same
  exact ⟨pc ▸ h.pcEven, wp ▸ h.wpEven, cfg ▸ st ▸ h.stBits, wf, cfg ▸ below⟩

theorem of_ite {b : Prop} [Decidable b] (hs : s.Sound) (ht : t.Sound) : (if b then s else t).Sound := by
  split
  · exact hs
  · exact ht

theorem setPc (h : s.Sound) (v : Word) : (s.setPc v).Sound := { h with pcEven := even_bit0 v }

theorem setWp (h : s.Sound) (v : Word) : (s.setWp v).Sound := { h with wpEven := even_bit0 v }

theorem setSt (h : s.Sound) {v : Word} (hv : v &&& ~~~stImpl s.cfg.part = 0) : (s.setSt v).Sound :=
  { h with stBits := hv }

theorem setFlag (h : s.Sound) {f : Flag} (b : Bool) (hx : f = .x → s.cfg.part ≠ .tms9940)
    (hac : f = .ac → s.cfg.part = .tms9940) : (s.setFlag f b).Sound :=
  h.setSt (masked_withBit b h.stBits (stImpl_flag _ f hx hac))

/-- The mask is four bits of `st`, on the TMS 9940 two, which exist (R33, R34). -/
theorem setMask (h : s.Sound) (v : BitVec 4) : (s.setMask v).Sound := by
  have two : ∀ v : BitVec 4, (v.setWidth 16 &&& 3) &&& ~~~stImpl .tms9940 = 0 := by decide
  have four : ∀ p v, p ≠ .tms9940 → (v : BitVec 4).setWidth 16 &&& ~~~stImpl p = 0 := by
    intro p
    cases p <;> decide
  unfold State.setMask
  split
  next part => exact h.setSt (masked_or (masked_and _ h.stBits) (part ▸ two v))
  next other => exact h.setSt (masked_or (masked_and _ h.stBits) (four _ v other))

theorem setHalted (h : s.Sound) (b : Bool) : (s.setHalted b).Sound := h.congr (by simp)

theorem setInhibit (h : s.Sound) (b : Bool) : (s.setInhibit b).Sound := h.congr (by simp)

theorem setXword (h : s.Sound) (w : Option Word) : (s.setXword w).Sound := h.congr (by simp)

/-- A memory cycle, a CRU cycle and a result flag keep the invariant, whatever comes before the cycle from outside. -/
theorem closed : Closed State.Sound where
  readWord h := h.of_mem (by simp) (readWord_wf _ _ h.memWf) (readWord_below _ _ h.memBelow)
  writeWord h := h.of_mem (by simp) (writeWord_wf _ _ _ h.memWf) (writeWord_below _ _ _ h.memBelow)
  cruIn {s a} h := h.of_mem (by simp) (cruIn_mem_busCycle a s ▸ s.busCycle_wf h.memWf)
    (cruIn_mem_busCycle a s ▸ s.busCycle_below h.memBelow)
  cruOut {s a b} h := h.of_mem (by simp) (cruOut_mem_busCycle a b s ▸ s.busCycle_wf h.memWf)
    (cruOut_mem_busCycle a b s ▸ s.busCycle_below h.memBelow)
  extCtl {s code} h := h.of_mem (by simp) (extCtl_mem_busCycle code s ▸ s.busCycle_wf h.memWf)
    (extCtl_mem_busCycle code s ▸ s.busCycle_below h.memBelow)
  setPc h := h.setPc _
  setXword h := h.setXword _
  useFree h := h.congr (by simp)
  setFlag _ _ hx hac h := h.setFlag _ (fun e => absurd e hx) (fun e => absurd e hac)
  setAc part h := h.setFlag _ (fun e => by cases e) (fun _ => part)

theorem contextSwitch (h : s.Sound) (v : Word) (link : Option Word) : (contextSwitch v link s).Sound :=
  closed.contextSwitch (fun h => h.setWp _) h

/-- RTWP takes only the bits of R15 that exist (R225). -/
theorem returnSwitch (h : s.Sound) : (returnSwitch s).Sound := by
  have saved : (readReg 13 (readReg 14 (readReg 15 s).2).2).2.Sound :=
    closed.readReg (closed.readReg (closed.readReg h))
  have bits : ((readReg 15 s).1 &&& stImpl s.cfg.part) &&& ~~~stImpl s.cfg.part = 0 := masked_and_self _ _
  exact ((saved.setSt (by simpa using bits)).setPc _).setWp _

/-! ## Every instruction -/

theorem execXop (h : s.Sound) (n : BitVec 4) (src : Operand) : NextMeets State.Sound (execXop n src s) := by
  have switched {v a : Word} : (Machine.contextSwitch v (some a) (readOperand16 src s).state).Sound :=
    (closed.readOperand16 h).contextSwitch _ _
  unfold Machine.execXop
  refine setInhibit ?_ true
  split
  next => exact switched
  next other => exact switched.setFlag true (fun _ => by simpa using other) (fun e => by cases e)

theorem exec (h : s.Sound) (i : Instr) : NextMeets State.Sound (exec i s) := by
  cases i with
  | lwpi => exact (closed.fetch h).setWp _
  | limi => exact (closed.fetch h).setMask _
  | idle => exact (closed.extCtl h).setHalted true
  | rset => exact closed.extCtl (h.setMask 0)
  | rtwp => exact h.returnSwitch
  | blwp _ => exact ((closed.effAddr h).contextSwitch _ _).setInhibit true
  | xop n src => exact h.execXop n src
  | liim _ _ => exact h.setMask _
  | _ => exact closed.exec_ordinary _ rfl h

/-! ## A word, a chain of X, a fetch -/

theorem runUndefined (h : s.Sound) (w : Word) : NextMeets State.Sound (runUndefined w s) := by
  unfold Machine.runUndefined
  split
  next => trivial
  next => exact h
  next =>
    split
    · exact h.exec _
    · trivial

theorem runWord (h : s.Sound) (w : Word) : NextMeets State.Sound (runWord w s) := by
  unfold Machine.runWord
  split
  · exact h.exec _
  · exact h.runUndefined w

theorem drain (h : s.Sound) (n : Nat) : NextMeets State.Sound (drain n s) := by
  induction n generalizing s with
  | zero => exact h
  | succ n ih =>
    unfold Machine.drain
    split
    next => exact h
    next w _ =>
      have ran := (h.setXword none).runWord w
      split
      next t e => exact ih (ran.of_eq e)
      next => trivial
      next => trivial

theorem fetchExecute (h : s.Sound) : NextMeets State.Sound (fetchExecute s) := by
  unfold Machine.fetchExecute
  split
  · exact h
  · exact ((closed.fetch h).setXword _).drain _

/-! ## Interrupts, LOAD, RESET -/

theorem doInterrupt (h : s.Sound) (n : Nat) : (doInterrupt n s).Sound :=
  (((h.setHalted false).contextSwitch _ _).setMask _).setInhibit true

theorem doLoad (h : s.Sound) : (doLoad s).Sound :=
  (((h.setHalted false).contextSwitch _ _).setMask _).setInhibit true

theorem resetChip (h : s.Sound) : (resetChip s).Sound := by
  unfold Machine.resetChip
  split
  · have cleared : ((s.setChip (OnChip.unspecified 0 0 s.free)).useFree OnChip.unspecifiedFree).Sound :=
      h.congr (by simp)
    exact ((cleared.setPc 0).setWp 0).setSt (by simp)
  · exact h

theorem resetFlags (h : s.Sound) : (resetFlags s).Sound := by
  unfold Machine.resetFlags
  split
  · exact h
  · exact h.setSt (masked_and _ h.stBits)

theorem doReset (h : s.Sound) : (doReset s).Sound := by
  have started : (((s.setHalted false).setXword none).setResetDue false).Sound := h.congr (by simp)
  exact ((started.resetChip.contextSwitch _ _).resetFlags.setMask 0).setInhibit true

/-! ## The inputs of a step -/

theorem applyPlatform (h : s.Sound) (e : PlatformEvent) : (applyPlatform s e).Sound := h.congr (by simp)

/-- A DMA access is the same between instructions and between the cycles of one. -/
theorem applyMid (h : s.Sound) (e : MidEvent) : (applyMid s e).Sound :=
  h.of_mem (by simp) (applyMid_wf e s h.memWf) (applyMid_below e s h.memBelow)

theorem losePower (h : s.Sound) : s.losePower.Sound := by
  unfold State.losePower
  split
  · split
    · exact h.congr (by simp)
    · exact h
  · exact h

/-- The `st` a program loaded through TST starts with is unspecified, but has only bits that exist (R413, R34). -/
theorem startTest (h : s.Sound) (start : Word) : (s.startTest start).Sound := by
  unfold State.startTest
  split
  next =>
    have given : (((s.setPc start).setWp (Config.freeWord s.free)).setSt
        (Config.freeWord (s.free + 1) &&& stImpl s.cfg.part)).Sound :=
      ((h.setPc _).setWp _).setSt (masked_and_self _ _)
    exact given.congr (by simp)
  next => exact h

theorem hostLoad (h : s.Sound) (a : Word) (b : Byte) :
    (s.setMem (Memory.write s.mem (busAddr s.cfg.part a) b)).Sound :=
  h.of_mem (by simp) (Memory.wf_write _ _ _ h.memWf) (Memory.below_write _ _ _ _ h.memBelow (busAddr_lt _ _))

theorem applyEvent (h : s.Sound) (e : Event) : (applyEvent s e).Sound := by
  cases e with
  | platform d => exact h.applyPlatform d
  | standby => exact h.losePower
  | dmaWrite a v => exact of_ite (h.applyMid (.dmaWrite a v)) h
  | dmaRead a => exact of_ite (h.applyMid (.dmaRead a)) h
  | hostLoad a b => exact h.hostLoad a b
  | testStart start => exact h.startTest start

theorem applyEvents (h : s.Sound) (es : List Event) : (applyEvents es s).Sound := by
  induction es generalizing s with
  | nil => exact h
  | cons e es ih => exact ih (h.applyEvent e)

theorem sample (h : s.Sound) : (sample s).Sound := by
  unfold Machine.sample
  split
  next => exact h
  next batch later _ =>
    have next : (s.setEnv later).Sound := h.congr (by simp)
    exact next.applyEvents batch

/-! ## The step -/

theorem instructionStep (h : s.Sound) : NextMeets State.Sound (instructionStep s) := by
  unfold Machine.instructionStep
  split
  · exact h.doLoad
  · split
    next n _ => exact h.doInterrupt n
    next => exact (h.setInhibit false).fetchExecute

theorem holdStep (h : s.Sound) : NextMeets State.Sound (holdStep s) := by
  unfold Machine.holdStep
  split
  · split
    next n _ => exact h.doInterrupt n
    next => exact h
  · exact h

theorem cycle (h : s.Sound) : NextMeets State.Sound (cycle s) := by
  unfold Machine.cycle
  split
  · exact h
  split
  · exact h.doReset
  split
  · exact h.holdStep
  split
  · exact h.drain _
  · exact h.instructionStep

end State.Sound

/-- `settle` lets a next state pass unchanged, and only one in which no pin in output mode was driven (U15). -/
theorem settle_eq_next {o : Host.Outcome State Fault Refusal} {t : State} (h : settle o = .next t) :
    o = .next t ∧ t.dev.misdriven = none := by
  cases o with
  | next u =>
    unfold settle at h
    simp only [] at h
    split at h
    next => cases h
    next none => cases h; exact ⟨rfl, none⟩
  | fault f => cases h
  | refused r => cases h

/-- Settles O12. What the step does to `pc`, `wp`, `st` and memory keeps the first five clauses at each operation; the
last clause is what `settle` tests. -/
theorem stepKeepsInvariant : Obligations.step_keeps_invariant := by
  intro s t hs hstep
  obtain ⟨hcycle, hdriven⟩ := settle_eq_next hstep
  have sound : s.Sound := ((State.inv_iff s).mp hs).1
  exact (State.inv_iff t).mpr ⟨sound.sample.cycle.of_eq hcycle, hdriven⟩

end Sys2Proof.Machine
end

section
/-! PROOFS. Which instructions alone can write the mask, X, `wp`, `inhibit` and the Halt state (O18). -/

namespace Sys2Proof.Machine

/-! ## The mask and the flags, by bits of `st` -/

/-- The mask is bits 3..0 of `st`, on the TMS 9940 bits 1..0 (R33). -/
theorem maskLevel_of_low_bits {s t : State} (hc : t.cfg.part = s.cfg.part)
    (h : ∀ k < 4, t.st.getLsbD k = s.st.getLsbD k) : t.maskLevel = s.maskLevel := by
  have low (n : Nat) (hn : n ≤ 4) : t.st.toNat % 2 ^ n = s.st.toNat % 2 ^ n := by
    have e : t.st.setWidth n = s.st.setWidth n := by
      apply BitVec.eq_of_getLsbD_eq
      intro k hk
      simp [hk, h k (by omega)]
    simpa using congrArg BitVec.toNat e
  unfold State.maskLevel
  rw [hc]
  split
  · exact low 2 (by omega)
  · exact low 4 (by omega)

/-- No flag is a bit of the mask. -/
theorem maskLevel_of_stKeptBut {fs : List Flag} {s t : State} (h : StKeptBut fs s t)
    (hc : t.cfg.part = s.cfg.part) : t.maskLevel = s.maskLevel := by
  refine maskLevel_of_low_bits hc fun k hk => h k fun f _ e => ?_
  have above : 8 ≤ flagBit f := by cases f <;> decide
  omega

theorem flag_of_stKeptBut {fs : List Flag} {f : Flag} {s t : State} (h : StKeptBut fs s t) (hf : f ∉ fs) :
    t.flag f = s.flag f :=
  h (flagBit f) fun _ hg e => hf (flagBit_inj e ▸ hg)

/-- A new mask leaves the flags (R33). -/
theorem setMask_flag (v : BitVec 4) (f : Flag) (s : State) : (s.setMask v).flag f = s.flag f := by
  have high (k : Word) (v : BitVec 16) (hk : k.getLsbD (flagBit f) = true) (hv : v.getLsbD (flagBit f) = false) :
      ((s.st &&& k) ||| v).getLsbD (flagBit f) = s.st.getLsbD (flagBit f) := by
    simp only [BitVec.getLsbD_or, BitVec.getLsbD_and, hk, hv, Bool.and_true, Bool.or_false]
  have above : ¬ flagBit f < 4 := by cases f <;> decide
  have small : (v.setWidth 16).getLsbD (flagBit f) = false := by
    simp [BitVec.getLsbD_setWidth, BitVec.getLsbD_of_ge v _ (Nat.le_of_not_lt above)]
  unfold State.setMask
  split
  · exact high _ _ (by cases f <;> decide) (by rw [BitVec.getLsbD_and, small, Bool.false_and])
  · exact high _ _ (by cases f <;> decide) small

/-! ## What an ordinary instruction leaves -/

/-- The part, `wp`, `inhibit`, the Halt state, the mask and X are as in `s`. -/
structure ControlKept (s t : State) : Prop where
  part : t.cfg.part = s.cfg.part
  wp : t.wp = s.wp
  inhibit : t.inhibit = s.inhibit
  halted : t.halted = s.halted
  mask : t.maskLevel = s.maskLevel
  x : t.flag .x = s.flag .x

namespace ControlKept

variable {s t u : State}

theorem refl (s : State) : ControlKept s s := ⟨rfl, rfl, rfl, rfl, rfl, rfl⟩

/-- An operation that writes no bit of `st` but flags other than X. -/
theorem of_stKeptBut {fs : List Flag} (h : ControlKept s t) (st : StKeptBut fs t u) (hx : Flag.x ∉ fs)
    (same : u.cfg = t.cfg ∧ u.wp = t.wp ∧ u.inhibit = t.inhibit ∧ u.halted = t.halted) : ControlKept s u := by
  obtain ⟨cfg, wp, inhibit, halted⟩ := same
  have part : u.cfg.part = t.cfg.part := congrArg Platform.part cfg
  exact
    { part := part.trans h.part
      wp := wp.trans h.wp
      inhibit := inhibit.trans h.inhibit
      halted := halted.trans h.halted
      mask := (maskLevel_of_stKeptBut st part).trans h.mask
      x := (flag_of_stKeptBut st hx).trans h.x }

/-- An operation that leaves `st`. -/
theorem of_st (h : ControlKept s t)
    (same : u.st = t.st ∧ u.cfg = t.cfg ∧ u.wp = t.wp ∧ u.inhibit = t.inhibit ∧ u.halted = t.halted) :
    ControlKept s u :=
  h.of_stKeptBut (stKeptBut_of_st same.1) List.not_mem_nil same.2

/-- The elementary operations of an ordinary instruction write none of the six. -/
theorem closed (s : State) : Closed (ControlKept s) where
  readWord h := h.of_st (by simp)
  writeWord h := h.of_st (by simp)
  cruIn h := h.of_st (by simp)
  cruOut h := h.of_st (by simp)
  extCtl h := h.of_st (by simp)
  setPc h := h.of_st (by simp)
  setXword h := h.of_st (by simp)
  useFree h := h.of_st (by simp)
  setFlag f _ hx _ h := h.of_stKeptBut (setFlag_stKeptBut _ f _) (by simpa using Ne.symm hx) (by simp)
  setAc _ h := h.of_stKeptBut (setFlag_stKeptBut _ .ac _) (by simp) (by simp)

end ControlKept

theorem exec_controlKept (i : Instr) (hi : i.ordinary = true) (s t : State) (h : exec i s = .next t) :
    ControlKept s t :=
  ((ControlKept.closed s).exec_ordinary i hi (ControlKept.refl s)).of_eq h

/-! ## What the other eight instructions leave -/

theorem execLwpi_leaves {s t : State} (h : exec .lwpi s = .next t) :
    t.maskLevel = s.maskLevel ∧ t.flag .x = s.flag .x ∧ t.inhibit = s.inhibit ∧ t.halted = s.halted := by
  obtain rfl : _ = t := Host.Outcome.next.inj h
  have st : ((fetch s).2.setWp (fetch s).1).st = s.st := by simp
  exact ⟨maskLevel_of_stKeptBut (stKeptBut_of_st st) (by simp), flag_of_st .x st, by simp, by simp⟩

theorem execIdle_leaves {s t : State} (h : exec .idle s = .next t) :
    t.maskLevel = s.maskLevel ∧ t.flag .x = s.flag .x ∧ t.wp = s.wp ∧ t.inhibit = s.inhibit := by
  obtain rfl : _ = t := Host.Outcome.next.inj h
  have st : ((extCtl 0b010 s).setHalted true).st = s.st := by simp
  exact ⟨maskLevel_of_stKeptBut (stKeptBut_of_st st) (by simp), flag_of_st .x st, by simp, by simp⟩

theorem execBlwp_leaves {o : Operand} {s t : State} (h : exec (.blwp o) s = .next t) :
    t.maskLevel = s.maskLevel ∧ t.flag .x = s.flag .x ∧ t.halted = s.halted := by
  obtain rfl : _ = t := Host.Outcome.next.inj h
  have st : ((contextSwitch (effAddr o .word s).1 none (effAddr o .word s).2).setInhibit true).st = s.st := by simp
  exact ⟨maskLevel_of_stKeptBut (stKeptBut_of_st st) (by simp), flag_of_st .x st, by simp⟩

/-- XOP writes no bit of `st` but X (R263). -/
theorem execXop_leaves {n : BitVec 4} {o : Operand} {s t : State} (h : exec (.xop n o) s = .next t) :
    t.maskLevel = s.maskLevel ∧ t.halted = s.halted := by
  simp only [exec, execXop, Host.Outcome.next.injEq] at h
  subst h
  split
  · exact ⟨maskLevel_of_stKeptBut (stKeptBut_of_st (by simp)) (by simp), by simp⟩
  · have switched {v a : Word} : StKeptBut [] s (contextSwitch v (some a) (readOperand16 o s).state) :=
      stKeptBut_of_st (by simp)
    exact ⟨maskLevel_of_stKeptBut (stKeptBut_trans switched (setFlag_stKeptBut _ .x true)) (by simp), by simp⟩

theorem execLimi_leaves {s t : State} (h : exec .limi s = .next t) :
    t.flag .x = s.flag .x ∧ t.wp = s.wp ∧ t.inhibit = s.inhibit ∧ t.halted = s.halted := by
  obtain rfl : _ = t := Host.Outcome.next.inj h
  exact ⟨(setMask_flag _ .x _).trans (flag_of_st .x (by simp)), by simp, by simp, by simp⟩

theorem execRset_leaves {s t : State} (h : exec .rset s = .next t) :
    t.flag .x = s.flag .x ∧ t.wp = s.wp ∧ t.inhibit = s.inhibit ∧ t.halted = s.halted := by
  obtain rfl : _ = t := Host.Outcome.next.inj h
  exact ⟨(flag_of_st .x (by simp)).trans (setMask_flag 0 .x s), by simp, by simp, by simp⟩

theorem execLiim_leaves {x : BitVec 5} {n : BitVec 2} {s t : State} (h : exec (.liim x n) s = .next t) :
    t.flag .x = s.flag .x ∧ t.wp = s.wp ∧ t.inhibit = s.inhibit ∧ t.halted = s.halted := by
  obtain rfl : _ = t := Host.Outcome.next.inj h
  exact ⟨setMask_flag _ .x s, by simp, by simp, by simp⟩

theorem execRtwp_leaves {s t : State} (h : exec .rtwp s = .next t) : t.inhibit = s.inhibit ∧ t.halted = s.halted := by
  obtain rfl : _ = t := Host.Outcome.next.inj h
  exact ⟨returnSwitch_inhibit s, returnSwitch_halted s⟩

/-- Settles O18: the ordinary instructions write none of the five, and each of the other eight leaves those it is not
named for. -/
theorem whoWritesWhat : Obligations.who_writes_what := by
  intro i s t h
  cases i with
  | lwpi =>
    obtain ⟨mask, x, inhibit, halted⟩ := execLwpi_leaves h
    exact ⟨fun _ _ _ _ => mask, fun _ _ => x, fun named => absurd rfl named, fun _ _ => inhibit, fun _ => halted⟩
  | idle =>
    obtain ⟨mask, x, wp, inhibit⟩ := execIdle_leaves h
    exact ⟨fun _ _ _ _ => mask, fun _ _ => x, fun _ _ _ _ => wp, fun _ _ => inhibit, fun named => absurd rfl named⟩
  | blwp o =>
    obtain ⟨mask, x, halted⟩ := execBlwp_leaves h
    exact ⟨fun _ _ _ _ => mask, fun _ _ => x, fun _ named => absurd rfl (named o), fun named => absurd rfl (named o),
      fun _ => halted⟩
  | xop n o =>
    obtain ⟨mask, halted⟩ := execXop_leaves h
    exact ⟨fun _ _ _ _ => mask, fun named => absurd rfl (named n o), fun _ _ named => absurd rfl (named n o),
      fun _ named => absurd rfl (named n o), fun _ => halted⟩
  | limi =>
    obtain ⟨x, wp, inhibit, halted⟩ := execLimi_leaves h
    exact ⟨fun named => absurd rfl named, fun _ _ => x, fun _ _ _ _ => wp, fun _ _ => inhibit, fun _ => halted⟩
  | rset =>
    obtain ⟨x, wp, inhibit, halted⟩ := execRset_leaves h
    exact ⟨fun _ _ named => absurd rfl named, fun _ _ => x, fun _ _ _ _ => wp, fun _ _ => inhibit, fun _ => halted⟩
  | liim d n =>
    obtain ⟨x, wp, inhibit, halted⟩ := execLiim_leaves h
    exact ⟨fun _ named => absurd rfl (named d n), fun _ _ => x, fun _ _ _ _ => wp, fun _ _ => inhibit,
      fun _ => halted⟩
  | rtwp =>
    obtain ⟨inhibit, halted⟩ := execRtwp_leaves h
    exact ⟨fun _ _ _ named => absurd rfl named, fun _ named => absurd rfl named, fun _ _ _ named => absurd rfl named,
      fun _ _ => inhibit, fun _ => halted⟩
  | _ =>
    have kept := exec_controlKept _ rfl s t h
    exact ⟨fun _ _ _ _ => kept.mask, fun _ _ => kept.x, fun _ _ _ _ => kept.wp, fun _ _ => kept.inhibit,
      fun _ => kept.halted⟩

end Sys2Proof.Machine
end

section
/-! PROOFS. Workspace registers and `Fetch` (O6), and the state after reset (O13, O14). -/

namespace Sys2Proof.Machine

/-! ## Words read and written -/

/-- `wp + 2r` as a sum of numbers, modulo 2^16 (R22, D4). -/
theorem regAddr_eq (s : State) (r : Reg) : regAddr s r = BitVec.ofNat 16 (s.wp.toNat + 2 * r.toNat) := by
  apply BitVec.eq_of_toNat_eq
  have small := r.isLt
  have wide : r.toNat % 65536 = r.toNat := Nat.mod_eq_of_lt (by omega)
  simp [regAddr, BitVec.toNat_add, BitVec.toNat_mul, wide]

theorem readWord_frame (a : Word) (s : State) (q : s.during = []) : Frame [] s (readWord a s).2 :=
  ⟨stKeptBut_of_st (by simp), by simp, by simp,
    ⟨⟨by simp, by simp, by simp, by simp, by simp, by simp [q]⟩, readWord_unwatched a s q⟩⟩

theorem writeWord_frame (a v : Word) (s : State) (q : s.during = []) : Frame [] s (writeWord a v s) :=
  ⟨stKeptBut_of_st (by simp), by simp, by simp,
    ⟨⟨by simp, by simp, by simp, by simp, by simp, by simp [q]⟩, writeWord_unwatched a v s q⟩⟩

theorem holdsWord_of_keepsWord {s : State} {a : Word} (h : s.keepsWord a = true) : s.holdsWord a = true := by
  simp only [State.keepsWord, State.holdsWord, Bool.and_eq_true] at *
  exact ⟨holds_of_keeps s _ h.1, holds_of_keeps s _ h.2⟩

/-- A word that is kept is what the next read of its address gives. -/
theorem readWord_writeWord (a v : Word) (s : State) (q : s.during = []) (h : s.keepsWord a = true) :
    (readWord a (writeWord a v s)).1 = v := by
  have holds : (writeWord a v s).holdsWord a = true :=
    (holdsWord_of_cfg (writeWord_cfg a v s) a).trans (holdsWord_of_keepsWord h)
  rw [readWord_value a _ (by simp [q]) holds, writeWord_peek a v s q h]

/-- A register that is kept is what the next read of it gives. -/
theorem readReg_writeReg (r : Reg) (v : Word) (s : State) (q : s.during = []) (h : s.keepsWord (regAddr s r) = true) :
    (readReg r (writeReg r v s)).1 = v := by
  have address : regAddr (writeReg r v s) r = regAddr s r := by simp [regAddr]
  rw [readReg, address]
  exact readWord_writeWord (regAddr s r) v s q h

theorem fetch_memKept (s : State) (q : s.during = []) : MemKept s (fetch s).2 :=
  memKept_of_mem (fetch_cfg s) (fetch_mem s q)

theorem fetch_kept (s : State) (q : s.during = []) : Kept s (fetch s).2 :=
  ⟨⟨by simp, by simp, by simp, by simp, by simp, by simp [q]⟩, fetch_unwatched s q⟩

/-- From an even `pc` the sum is even, so `setPc` leaves it as it is. -/
theorem fetch_pc_toNat (s : State) (h : s.pc.getLsbD 0 = false) : (fetch s).2.pc.toNat = (s.pc.toNat + 2) % 65536 := by
  have pcEven : s.pc.toNat / 2 * 2 = s.pc.toNat := by rw [← even_toNat, even_of_bit0 _ h]
  have sum : (s.pc + 2).toNat = (s.pc.toNat + 2) % 65536 := by simp [BitVec.toNat_add]
  rw [fetch_pc, even_toNat, sum]
  omega

/-- Settles O6: a register access is the word access at `wp + 2r`, and `Fetch` is the word access at `pc`. -/
theorem registersAndFetch : Obligations.registers_and_fetch := by
  constructor
  · intro r v s q
    rw [← regAddr_eq]
    exact ⟨readWord_value _ s q, writeWord_stored _ v s q, writeWord_frame _ v s q, readWord_memKept _ s q,
      readWord_frame _ s q, readReg_writeReg r v s q⟩
  · intro s q hpc
    exact ⟨readWord_value _ s q, fetch_pc_toNat s hpc, fetch_memKept s q, fetch_st s, fetch_wp s, fetch_kept s q⟩

/-! ## Reset -/

/-- Settles O13: `pc`, `wp` and `st` are 0, memory lists nothing, and there is no TMS 9901 yet. -/
theorem resetInvariant : Obligations.reset_invariant := by
  intro p
  have pcEven : (0 : Word).getLsbD 0 = false := by decide
  have stBits : 0 &&& ~~~stImpl p = 0 := by cases p <;> decide
  exact (State.inv_iff _).mpr ⟨⟨pcEven, pcEven, stBits, rfl, rfl⟩, rfl⟩

/-- Memory at reset lists nothing, so that every word of it reads as 0 (log entry 2). -/
theorem resetOn_peekWord (p : Part) (a : Word) : (State.resetOn p).peekWord a = 0 := by
  simp [State.peekWord, State.peekByte, State.resetOn, Memory.read, unlistedByte]

/-- Settles O14. -/
theorem resetValues : Obligations.reset_values := by
  intro p
  have vector (a : Word) : even ((State.resetOn p).peekWord a) = 0 := by rw [resetOn_peekWord]; rfl
  have mask : (State.resetOn p).maskLevel = 0 := by cases p <;> rfl
  exact ⟨(vector 0).symm, (vector 2).symm, mask, rfl, rfl, rfl, rfl⟩

end Sys2Proof.Machine
end

section
/-! PROOFS. What comes before a bus cycle from outside (R78, U13; log entry 48): neither a cycle of memory or of the CRU
nor an event looks at the batches still to come, so that a cycle with a batch before it is the cycle after that
batch. -/

namespace Sys2Proof.Machine

/-! ## The cycles of memory -/

@[simp] theorem seeAddr_setDuring (a : Word) (d : List (List MidEvent)) (s : State) :
    (s.setDuring d).seeAddr a = (s.seeAddr a).setDuring d := by
  unfold State.seeAddr
  rw [State.setDuring_cfg]
  split <;> rfl

@[simp] theorem emitAt_setDuring (a : Word) (e : BusEvent) (d : List (List MidEvent)) (s : State) :
    (s.setDuring d).emitAt a e = (s.emitAt a e).setDuring d := by
  unfold State.emitAt
  rw [State.setDuring_cfg]
  split <;> rfl

@[simp] theorem cellByte_setDuring (a : Word) (d : List (List MidEvent)) (s : State) :
    cellByte a (s.setDuring d) = ((cellByte a s).1, (cellByte a s).2.setDuring d) := by
  unfold cellByte
  rw [State.setDuring_cfg]
  split <;> rfl

@[simp] theorem storeByte_setDuring (a : Word) (b : Byte) (d : List (List MidEvent)) (s : State) :
    storeByte a b (s.setDuring d) = (storeByte a b s).setDuring d := by
  unfold storeByte
  rw [State.setDuring_cfg]
  split <;> rfl

@[simp] theorem readCycle8_setDuring (a : Word) (d : List (List MidEvent)) (s : State) :
    readCycle8 a (s.setDuring d) = ((readCycle8 a s).1, (readCycle8 a s).2.setDuring d) := by
  simp [readCycle8]

@[simp] theorem readCycle16_setDuring (a : Word) (d : List (List MidEvent)) (s : State) :
    readCycle16 a (s.setDuring d) = ((readCycle16 a s).1, (readCycle16 a s).2.setDuring d) := by
  simp [readCycle16]

@[simp] theorem writeCycle8_setDuring (a : Word) (b : Byte) (d : List (List MidEvent)) (s : State) :
    writeCycle8 a b (s.setDuring d) = (writeCycle8 a b s).setDuring d := by
  simp [writeCycle8]

@[simp] theorem writeCycle16_setDuring (a v : Word) (d : List (List MidEvent)) (s : State) :
    writeCycle16 a v (s.setDuring d) = (writeCycle16 a v s).setDuring d := by
  simp [writeCycle16]

theorem busRead_setDuring (a : Word) (d : List (List MidEvent)) (s : State) :
    busRead a (s.setDuring d) = ((busRead a s).1, (busRead a s).2.setDuring d) := by
  unfold busRead
  rw [State.setDuring_cfg]
  split <;> simp

theorem busWrite_setDuring (a v : Word) (d : List (List MidEvent)) (s : State) :
    busWrite a v (s.setDuring d) = (busWrite a v s).setDuring d := by
  unfold busWrite
  rw [State.setDuring_cfg]
  split <;> simp

/-! ## The events of a batch -/

theorem applyDev_setDuring (e : DevEvent) (d : List (List MidEvent)) (s : State) :
    applyDev e (s.setDuring d) = (applyDev e s).setDuring d := by
  cases e with
  | psiP u k level =>
    have output : (s.setDuring d).psiOutput u k = s.psiOutput u k := rfl
    simp only [applyDev, State.drivePsiP, output]
    split <;> rfl
  | _ => rfl

theorem applyMid_setDuring (e : MidEvent) (d : List (List MidEvent)) (s : State) :
    applyMid (s.setDuring d) e = (applyMid s e).setDuring d := by
  cases e with
  | dev e => exact applyDev_setDuring e d s
  | dmaWrite a v =>
    simp only [applyMid, State.dmaWrite, State.setDuring_cfg]
    split <;> simp
  | dmaRead a =>
    simp only [applyMid, State.dmaRead, State.setDuring_cfg]
    split <;> simp

theorem applyMids_setDuring (es : List MidEvent) (d : List (List MidEvent)) (s : State) :
    es.foldl applyMid (s.setDuring d) = (es.foldl applyMid s).setDuring d := by
  induction es generalizing s with
  | nil => rfl
  | cons e es ih => rw [List.foldl_cons, List.foldl_cons, applyMid_setDuring, ih]

/-- What happens before a bus cycle is its batch, applied in quiet; the later batches stay. -/
theorem busCycle_setDuring (batch : List MidEvent) (later : List (List MidEvent)) (s : State) (q : s.during = []) :
    (s.setDuring (batch :: later)).busCycle = (batch.foldl applyMid s).busCycle.setDuring later := by
  have quiet : (batch.foldl applyMid s).during = [] := by rw [applyMids_during, q]
  rw [State.busCycle_quiet _ quiet]
  exact applyMids_setDuring batch later s

/-! ## The CPU's accesses -/

theorem readWord_setDuring (a : Word) (batch : List MidEvent) (later : List (List MidEvent)) (s : State)
    (q : s.during = []) :
    readWord a (s.setDuring (batch :: later)) =
      ((readWord a (batch.foldl applyMid s)).1, (readWord a (batch.foldl applyMid s)).2.setDuring later) := by
  rw [readWord, busCycle_setDuring batch later s q, busRead_setDuring]
  rfl

theorem writeWord_setDuring (a v : Word) (batch : List MidEvent) (later : List (List MidEvent)) (s : State)
    (q : s.during = []) :
    writeWord a v (s.setDuring (batch :: later)) = (writeWord a v (batch.foldl applyMid s)).setDuring later := by
  rw [writeWord, busCycle_setDuring batch later s q, busWrite_setDuring]
  rfl

/-! ## The cycles of the CRU -/

theorem busIn_setDuring (a : Nat) (d : List (List MidEvent)) (s : State) :
    busIn a (s.setDuring d) = ((busIn a s).1, (busIn a s).2.setDuring d) := by
  have seen : ((s.setDuring d).emit (.cruIn a)).seeLine (a.testBit 4) =
      ((s.emit (.cruIn a)).seeLine (a.testBit 4)).setDuring d := rfl
  unfold busIn
  simp only [seen, State.setDuring_dev]
  split <;> rfl

theorem chipIn_setDuring (a : Nat) (d : List (List MidEvent)) (s : State) :
    chipIn a (s.setDuring d) = ((chipIn a s).1, (chipIn a s).2.setDuring d) := by
  unfold chipIn
  rw [State.setDuring_dev]
  by_cases external : a < 0x100
  · by_cases expansion : s.dev.chip.cbit 0 = true
    · simp only [if_pos external, if_pos expansion, busIn_setDuring]
    · simp only [if_pos external, if_neg expansion]
      rfl
  · simp only [if_neg external]
    split <;> rfl

theorem chipOut_setDuring (a : Nat) (b : Bool) (d : List (List MidEvent)) (s : State) :
    chipOut a b (s.setDuring d) = (chipOut a b s).setDuring d := by
  simp only [chipOut, State.setDuring_dev, apply_ite (State.setDuring · d)]
  rfl

/-- A CRU cycle that a batch of outside events comes before is the cycle after those events (U13). -/
theorem cruIn_setDuring (a : Nat) (batch : List MidEvent) (later : List (List MidEvent)) (s : State)
    (q : s.during = []) :
    cruIn a (s.setDuring (batch :: later)) =
      ((cruIn a (batch.foldl applyMid s)).1, (cruIn a (batch.foldl applyMid s)).2.setDuring later) := by
  simp only [cruIn, busCycle_setDuring batch later s q, State.setDuring_cfg, applyMids_cfg]
  split
  · exact chipIn_setDuring a later _
  · exact busIn_setDuring a later _

theorem cruOut_setDuring (a : Nat) (b : Bool) (batch : List MidEvent) (later : List (List MidEvent)) (s : State)
    (q : s.during = []) :
    cruOut a b (s.setDuring (batch :: later)) = (cruOut a b (batch.foldl applyMid s)).setDuring later := by
  simp only [cruOut, busCycle_setDuring batch later s q, State.setDuring_cfg, applyMids_cfg]
  split
  · exact chipOut_setDuring a b later _
  · rfl

end Sys2Proof.Machine
end

section
/-! PROOFS. Reads and writes of bytes and words, and the accesses of another bus master (O5). -/

namespace Sys2Proof.Machine

/-! ## Bytes -/

/-- A byte is read where memory holds that byte, whatever stands at the other byte of its word. -/
theorem readByte_value_of_holds (a : Word) (s : State) (q : s.during = []) (h : s.holds a = true) :
    (readByte a s).1 = s.peekByte a := by
  obtain ⟨high, low⟩ := busRead_halves a s
  simp only [readByte, readWord, s.busCycle_quiet q, byteAt]
  split
  next odd =>
    rw [even_eq_of_bit0 odd] at low
    exact low h
  next notOdd =>
    rw [even_of_bit0 a (by simpa using notOdd)] at high
    exact high h

/-- A byte written after the read of its word is stored, and the other byte of the word is written as it was. -/
theorem writeByte_readWord_stored (a : Word) (b : Byte) (s : State) (q : s.during = []) :
    ByteStored s (writeByte a (readWord a s).1 b (readWord a s).2) a b := by
  have quiet : (readWord a s).2.during = [] := by simp [q]
  obtain ⟨high, low⟩ := busRead_halves a s
  rw [← State.busCycle_quiet s q] at high low
  have held (c : Word) (h : (readWord a s).2.keeps c = true) : s.busCycle.holds c = true :=
    holds_of_keeps _ c (by simpa [State.keeps] using h)
  have same (c : Word) : s.busCycle.peekByte c = (readWord a s).2.peekByte c := by
    rw [s.busCycle_quiet q, readWord_memKept a s q c]
  refine byteStored_pre (writeByte_stored a _ b _ quiet (fun h => ?_) (fun h => ?_)) (by simp) (by simp [q])
  · exact (high (held _ h)).trans (same _)
  · exact (low (held _ h)).trans (same _)

/-- A byte that is kept is what the next read of its address gives. -/
theorem readByte_writeByte (a : Word) (b : Byte) (s : State) (q : s.during = []) (h : s.keeps a = true) :
    (readByte a (writeByte a (readWord a s).1 b (readWord a s).2)).1 = b := by
  have holds : (writeByte a (readWord a s).1 b (readWord a s).2).holds a = true := by
    simpa [State.holds] using holds_of_keeps s a h
  rw [readByte_value_of_holds a _ (by simp [q]) holds]
  exact (writeByte_readWord_stored a b s q).1 h

theorem writeByte_readWord_frame (a : Word) (b : Byte) (s : State) (q : s.during = []) :
    Frame [] s (writeByte a (readWord a s).1 b (readWord a s).2) := by
  have devices : (writeByte a (readWord a s).1 b (readWord a s).2).dev.unwatched = s.dev.unwatched :=
    (writeWord_unwatched _ _ _ (by simp [q])).trans (readWord_unwatched a s q)
  exact ⟨stKeptBut_of_st (by simp), by simp, by simp, ⟨by simp, by simp, by simp, by simp, by simp, by simp [q]⟩,
    devices⟩

/-! ## Another bus master -/

/-- The word another bus master writes on the TMS 9900 is written as the CPU would write it. -/
theorem dmaWrite_word (a v : Word) (s : State) (h : s.cfg.part = .tms9900) : s.dmaWrite a v = busWrite a v s := by
  simp only [State.dmaWrite, busWrite, h]

theorem writeCycle8_stored (a : Word) (b : Byte) (s : State) : ByteStored s (writeCycle8 a b s) a b := by
  have peek (c : Word) : (writeCycle8 a b s).peekByte c =
      if s.keeps a = true ∧ busAddr s.cfg.part c = busAddr s.cfg.part a then b else s.peekByte c := by
    simp only [writeCycle8, storeByte_peek, emitAt_peek, seeAddr_peek]
    simp [State.keeps]
  refine ⟨fun h => ?_, fun c h => ?_⟩
  · rw [peek, if_pos ⟨h, rfl⟩]
  · rw [peek, if_neg fun hc => h hc.1 hc.2]

/-- Settles O5: each clause is a law of the access it speaks of. -/
theorem memoryAccess : Obligations.memory_access := by
  intro a v b s q
  have readKept : MemKept s (readWord a s).2 := readWord_memKept a s q
  have readFrame : Frame [] s (readWord a s).2 := readWord_frame a s q
  refine ⟨readWord_value a s q, readByte_value_of_holds a s q, readKept, readKept, writeWord_stored a v s q,
    writeByte_readWord_stored a b s q, readWord_writeWord a v s q, readByte_writeByte a b s q, readFrame, readFrame,
    writeWord_frame a v s q, writeByte_readWord_frame a b s q,
    fun batch later => ⟨readWord_setDuring a batch later s q, writeWord_setDuring a v batch later s q⟩,
    fun part => ?tms9900, fun part => ?tms9980, fun part => ?tms9940, memKept_of_mem (by simp) (dmaRead_mem a s)⟩
  case tms9900 =>
    rw [applyMid, dmaWrite_word a v s part]
    exact busWrite_stored a v s
  case tms9980 =>
    simp only [applyMid, State.dmaWrite, part]
    exact writeCycle8_stored a _ s
  case tms9940 => simp only [applyMid, State.dmaWrite, part]

end Sys2Proof.Machine
end

section
/-! PROOFS. What a whole step can do, said once: a predicate that each elementary operation of an ordinary instruction
keeps (`Closed`), and each register write of the other eight, of RESET, of LOAD and of an interrupt, is kept by the
cycle of the machine. -/

namespace Sys2Proof.Machine

/-- Each elementary operation of a step keeps `P`: those of an ordinary instruction, and the writes of `wp`, the mask,
`inhibit`, the Halt state, X, `st` and the on-chip devices that RESET makes. X is no flag of the TMS 9940 (R28, R34). -/
structure StepClosed (P : State → Prop) : Prop extends Closed P where
  setWp : ∀ {s : State} {v : Word}, P s → P (s.setWp v)
  setMask : ∀ {s : State} {v : BitVec 4}, P s → P (s.setMask v)
  setHalted : ∀ {s : State} {b : Bool}, P s → P (s.setHalted b)
  setInhibit : ∀ {s : State} {b : Bool}, P s → P (s.setInhibit b)
  setResetDue : ∀ {s : State} {b : Bool}, P s → P (s.setResetDue b)
  setX : ∀ {s : State} {b : Bool}, s.cfg.part ≠ .tms9940 → P s → P (s.setFlag .x b)
  setSt : ∀ {s : State} {v : Word}, P s → P (s.setSt v)
  resetChip : ∀ {s : State}, P s → P (resetChip s)

namespace StepClosed

variable {P : State → Prop} {s : State} (c : StepClosed P)
include c

/-! ## Every instruction -/

theorem switched {v : Word} {link : Option Word} (h : P s) : P (Machine.contextSwitch v link s) :=
  c.contextSwitch c.setWp h

theorem returnSwitch (h : P s) : P (returnSwitch s) :=
  c.setWp (c.setPc (c.setSt (c.readReg (c.readReg (c.readReg h)))))

theorem execXop {n : BitVec 4} {src : Operand} (h : P s) : NextMeets P (execXop n src s) := by
  unfold Machine.execXop
  refine c.setInhibit ?_
  split
  next => exact c.switched (c.readOperand16 h)
  next other => exact c.setX (by simpa using other) (c.switched (c.readOperand16 h))

theorem exec (h : P s) (i : Instr) : NextMeets P (exec i s) := by
  cases i with
  | lwpi => exact c.setWp (c.fetch h)
  | limi => exact c.setMask (c.fetch h)
  | idle => exact c.setHalted (c.extCtl h)
  | rset => exact c.extCtl (c.setMask h)
  | rtwp => exact c.returnSwitch h
  | blwp _ => exact c.setInhibit (c.switched (c.effAddr h))
  | xop _ _ => exact c.execXop h
  | liim _ _ => exact c.setMask h
  | _ => exact c.exec_ordinary _ rfl h

/-! ## A word, a chain of X, a fetch -/

theorem runUndefined (h : P s) (w : Word) : NextMeets P (runUndefined w s) := by
  unfold Machine.runUndefined
  split
  next => trivial
  next => exact h
  next =>
    split
    · exact c.exec h _
    · trivial

theorem runWord (h : P s) (w : Word) : NextMeets P (runWord w s) := by
  unfold Machine.runWord
  split
  · exact c.exec h _
  · exact c.runUndefined h w

theorem drain (h : P s) (n : Nat) : NextMeets P (drain n s) := by
  induction n generalizing s with
  | zero => exact h
  | succ n ih =>
    unfold Machine.drain
    split
    next => exact h
    next w _ =>
      have ran := c.runWord (c.setXword (w := none) h) w
      split
      next t e => exact ih (ran.of_eq e)
      next => trivial
      next => trivial

theorem fetchExecute (h : P s) : NextMeets P (fetchExecute s) := by
  unfold Machine.fetchExecute
  split
  · exact h
  · exact c.drain (c.setXword (c.fetch h)) _

/-! ## Interrupts, LOAD, RESET -/

theorem doInterrupt (h : P s) (n : Nat) : P (doInterrupt n s) :=
  c.setInhibit (c.setMask (c.switched (c.setHalted h)))

theorem doLoad (h : P s) : P (doLoad s) :=
  c.setInhibit (c.setMask (c.switched (c.setHalted h)))

theorem resetFlags (h : P s) : P (resetFlags s) := by
  unfold Machine.resetFlags
  split
  · exact h
  · exact c.setSt h

theorem doReset (h : P s) : P (doReset s) :=
  c.setInhibit (c.setMask (c.resetFlags (c.switched (c.resetChip (c.setResetDue (c.setXword (c.setHalted h)))))))

/-! ## The cycle of the machine -/

theorem instructionStep (h : P s) : NextMeets P (instructionStep s) := by
  unfold Machine.instructionStep
  split
  · exact c.doLoad h
  · split
    next n _ => exact c.doInterrupt h n
    next => exact c.fetchExecute (c.setInhibit h)

theorem holdStep (h : P s) : NextMeets P (holdStep s) := by
  unfold Machine.holdStep
  split
  · split
    next n _ => exact c.doInterrupt h n
    next => exact h
  · exact h

theorem cycle (h : P s) : NextMeets P (cycle s) := by
  unfold Machine.cycle
  split
  · exact h
  split
  · exact c.doReset h
  split
  · exact c.holdStep h
  split
  · exact c.drain h _
  · exact c.instructionStep h

end StepClosed

end Sys2Proof.Machine
end

section
/-! PROOFS. The parameters, and the bytes that nothing but a load from outside can change (O17). -/

namespace Sys2Proof.Machine

/-- No address of the place is RAM (R61, R74): the place is ROM, absent or a device. -/
def State.readOnly (s : State) (a : Word) : Prop := ∀ b : Word, samePlace s b a → kindAt s.cfg b ≠ .ram

/-- The parameters are as in `s`, and so is every byte whose place is not RAM. -/
structure RomKept (s t : State) : Prop where
  cfg : t.cfg = s.cfg
  bytes : ∀ a : Word, s.readOnly a → t.peekByte a = s.peekByte a

namespace RomKept

variable {s t u : State}

theorem refl (s : State) : RomKept s s := ⟨rfl, fun _ _ => rfl⟩

/-- The state matters only through the parameters and memory. -/
theorem congr (h : RomKept s t) (cfg : u.cfg = t.cfg) (mem : u.mem = t.mem) : RomKept s u :=
  ⟨cfg.trans h.cfg, fun a ha => (peekByte_of_mem cfg mem a).trans (h.bytes a ha)⟩

/-- Only RAM keeps what is written to it. -/
theorem storeByte (h : RomKept s t) (a : Word) (b : Byte) : RomKept s (storeByte a b t) := by
  refine ⟨(storeByte_cfg a b t).trans h.cfg, fun c hc => ?_⟩
  have other : ¬ (t.keeps a = true ∧ busAddr t.cfg.part c = busAddr t.cfg.part a) := by
    rintro ⟨keeps, place⟩
    rw [h.cfg] at place
    simp only [State.keeps, h.cfg, beq_iff_eq] at keeps
    exact hc a place.symm keeps
  rw [storeByte_peek, if_neg other, h.bytes c hc]

/-! ## Memory cycles, and what comes before them -/

theorem writeCycle8 (h : RomKept s t) (a : Word) (b : Byte) : RomKept s (writeCycle8 a b t) :=
  (h.congr (by simp) (by simp)).storeByte a b

theorem writeCycle16 (h : RomKept s t) (a v : Word) : RomKept s (writeCycle16 a v t) :=
  ((h.congr (by simp) (by simp)).storeByte _ _).storeByte _ _

theorem busWrite (h : RomKept s t) (a v : Word) : RomKept s (busWrite a v t) := by
  unfold Machine.busWrite
  split
  · exact (h.writeCycle8 _ _).writeCycle8 _ _
  · exact h.writeCycle16 a v

theorem applyMid (h : RomKept s t) (e : MidEvent) : RomKept s (applyMid t e) := by
  cases e with
  | dev d => exact h.congr (applyDev_cfg d t) (applyDev_mem d t)
  | dmaRead a => exact h.congr (dmaRead_cfg a t) (dmaRead_mem a t)
  | dmaWrite a v =>
    unfold Machine.applyMid State.dmaWrite
    simp only []
    split
    · exact h.writeCycle16 a v
    · exact h.writeCycle8 a _
    · exact h

theorem applyMids (h : RomKept s t) (es : List MidEvent) : RomKept s (es.foldl Machine.applyMid t) := by
  induction es generalizing t with
  | nil => exact h
  | cons e es ih => exact ih (h.applyMid e)

theorem busCycle (h : RomKept s t) : RomKept s t.busCycle := by
  unfold State.busCycle
  split
  · exact h
  · exact (h.congr (by simp) (by simp)).applyMids _

/-- Of the elementary operations of an instruction only a bus cycle touches memory. -/
theorem closed (s : State) : Closed (RomKept s) where
  readWord h := h.busCycle.congr (by simp) (busRead_mem _ _)
  writeWord h := h.busCycle.busWrite _ _
  cruIn h := h.busCycle.congr (by simp) (cruIn_mem_busCycle _ _)
  cruOut h := h.busCycle.congr (by simp) (cruOut_mem_busCycle _ _ _)
  extCtl h := h.busCycle.congr (by simp) (extCtl_mem_busCycle _ _)
  setPc h := h.congr (by simp) (by simp)
  setXword h := h.congr (by simp) (by simp)
  useFree h := h.congr (by simp) (by simp)
  setFlag _ _ _ _ h := h.congr (by simp) (by simp)
  setAc _ h := h.congr (by simp) (by simp)

/-- A step writes registers, devices and `st` besides, but no memory other than by a bus cycle. -/
theorem stepClosed (s : State) : StepClosed (RomKept s) where
  toClosed := closed s
  setWp h := h.congr (by simp) (by simp)
  setMask h := h.congr (by simp) (by simp)
  setHalted h := h.congr (by simp) (by simp)
  setInhibit h := h.congr (by simp) (by simp)
  setResetDue h := h.congr (by simp) (by simp)
  setX _ h := h.congr (by simp) (by simp)
  setSt h := h.congr (by simp) (by simp)
  resetChip {t} h := by
    unfold Machine.resetChip
    split
    · exact h.congr (by simp) (by simp)
    · exact h

/-! ## The inputs of a step -/

theorem losePower (h : RomKept s t) : RomKept s t.losePower := by
  unfold State.losePower
  split
  · split
    · exact h.congr (by simp) (by simp)
    · exact h
  · exact h

theorem startTest (h : RomKept s t) (start : Word) : RomKept s (t.startTest start) := by
  unfold State.startTest
  split
  · exact h.congr (by simp) (by simp)
  · exact h

/-- A DMA access is the same between instructions and between the cycles of one. -/
theorem applyEvent (h : RomKept s t) (e : Event) (notLoad : ∀ a b, Event.hostLoad a b ≠ e) :
    RomKept s (applyEvent t e) := by
  cases e with
  | platform d => exact h.congr (applyPlatform_cfg t d) (applyPlatform_mem t d)
  | standby => exact h.losePower
  | dmaWrite a v =>
    unfold Machine.applyEvent
    simp only []
    split
    · exact h.applyMid (.dmaWrite a v)
    · exact h
  | dmaRead a =>
    unfold Machine.applyEvent
    simp only []
    split
    · exact h.applyMid (.dmaRead a)
    · exact h
  | hostLoad a b => exact absurd rfl (notLoad a b)
  | testStart start => exact h.startTest start

theorem applyEvents (h : RomKept s t) (es : List Event) (notLoad : ∀ a b, Event.hostLoad a b ∉ es) :
    RomKept s (applyEvents es t) := by
  induction es generalizing t with
  | nil => exact h
  | cons e es ih =>
    have now := h.applyEvent e fun a b eq => notLoad a b (eq ▸ List.mem_cons_self)
    exact ih now fun a b mem => notLoad a b (List.mem_cons_of_mem e mem)

theorem sample (h : RomKept s t)
    (notLoad : ∀ batch later, t.env = batch :: later → ∀ a b, Event.hostLoad a b ∉ batch) :
    RomKept s (sample t) := by
  unfold Machine.sample
  split
  next => exact h
  next batch later env => exact (h.congr (by simp) (by simp)).applyEvents batch (notLoad batch later env)

end RomKept

/-- A load from outside leaves the parameters too. -/
theorem applyEvent_cfg (s : State) (e : Event) : (applyEvent s e).cfg = s.cfg := by
  cases e with
  | hostLoad a b => rfl
  | _ => exact ((RomKept.refl s).applyEvent _ (by simp)).cfg

theorem applyEvents_cfg (es : List Event) (s : State) : (applyEvents es s).cfg = s.cfg := by
  induction es generalizing s with
  | nil => rfl
  | cons e es ih => exact (ih (applyEvent s e)).trans (applyEvent_cfg s e)

theorem sample_cfg (s : State) : (sample s).cfg = s.cfg := by
  unfold sample
  split
  · rfl
  · exact applyEvents_cfg _ _

/-- Settles O17. From the sampled state on the step keeps the parameters and ROM; the sampling itself keeps the
parameters, and ROM where no byte is loaded from outside. -/
theorem romAndParametersKept : Obligations.rom_and_parameters_kept := by
  intro s t hstep
  obtain ⟨hcycle, -⟩ := settle_eq_next hstep
  constructor
  · have kept : RomKept (sample s) t := ((RomKept.stepClosed _).cycle (RomKept.refl _)).of_eq hcycle
    exact kept.cfg.trans (sample_cfg s)
  · intro notLoad
    have sampled : RomKept s (sample s) := (RomKept.refl s).sample notLoad
    have kept : RomKept s t := ((RomKept.stepClosed s).cycle sampled).of_eq hcycle
    exact kept.bytes

end Sys2Proof.Machine
end

section
/-! PROOFS. CRU transfers on the external lines: their bus events, what comes in, and what goes out (O53). -/

namespace Sys2Proof.Machine

variable {s : State}

/-! ## One CRU cycle of a TMS 9900 or TMS 9980 -/

theorem cruIn_external (a : Nat) (part : s.cfg.part ≠ .tms9940) (q : s.during = []) : cruIn a s = busIn a s := by
  unfold cruIn
  split
  next onChip => exact absurd onChip part
  next => rw [s.busCycle_quiet q]

theorem cruOut_external (a : Nat) (b : Bool) (part : s.cfg.part ≠ .tms9940) (q : s.during = []) :
    cruOut a b s = busOut a b s := by
  unfold cruOut
  split
  next onChip => exact absurd onChip part
  next => rw [s.busCycle_quiet q]

/-- Reading a bit changes the devices only as watching the bus does. -/
theorem busIn_dev (a : Nat) (s : State) : (busIn a s).2.dev = ((s.emit (.cruIn a)).seeLine (a.testBit 4)).dev := by
  unfold busIn
  simp only []
  split <;> rfl

theorem busOut_log (a : Nat) (b : Bool) (s : State) : (busOut a b s).dev.log = .cruOut a b :: s.dev.log := rfl

theorem busIn_log (a : Nat) (s : State) : (busIn a s).2.dev.log = .cruIn a :: s.dev.log := by
  rw [busIn_dev]; rfl

/-- Where no TMS 9901 is there to watch the bus, reading a bit is only recorded. -/
theorem busIn_dev_of_no_psi (a : Nat) (s : State) (noPsi : s.dev.psi = []) :
    (busIn a s).2.dev = { s.dev with log := (busIn a s).2.dev.log } := by
  have watching : (s.dev.psi.map fun p => p.seeS0 (a.testBit 4)) = s.dev.psi := by rw [noPsi, List.map_nil]
  rw [busIn_log, busIn_dev, State.seeLine_dev, State.emit_dev, watching]

/-- What comes in is the level a device or a held line drives (R83). -/
theorem busIn_value (a : Nat) (s : State) (level : Bool) (noPsi : s.dev.psi = [])
    (driven : s.dev.cruLevel a = some level) : (busIn a s).1 = level := by
  have seen : ((s.emit (.cruIn a)).seeLine (a.testBit 4)).dev.cruLevel a = s.dev.cruLevel a := by
    rw [State.seeLine_dev, State.emit_dev]
    simp only [Devices.cruLevel, noPsi, List.map_nil]
  unfold busIn
  simp only [seen, driven]

/-! ## What goes out -/

/-- A device that decodes no `CruOut` at an address does not change. -/
theorem CruDevice.take_of_not_decoded {d : CruDevice} {a : Nat} (b : Bool) (h : ∀ q ∈ d.ports, q.addr ≠ a) :
    d.take a b = d := by
  have unmatched : (d.ports.filter fun q => q.addr == a) = [] := by simpa using h
  simp only [CruDevice.take, unmatched, List.flatMap_nil, List.foldl_nil]

theorem psiTake_of_not_decoded {a : Nat} (b : Bool) (n : Nat) {ps : List Psi} (h : ∀ p ∈ ps, a / 32 ≠ p.slot) :
    psiTake a b n ps = ps := by
  induction ps generalizing n with
  | nil => rfl
  | cons p ps ih =>
    have other : a / 32 ≠ p.slot := h p List.mem_cons_self
    rw [psiTake, Psi.take, if_neg other, ih _ fun q hq => h q (List.mem_cons_of_mem p hq)]

theorem Devices.cruTake_of_not_decoded {d : Devices} {a : Nat} (b : Bool) (n : Nat)
    (psi : ∀ p ∈ d.psi, a / 32 ≠ p.slot) (ports : ∀ c ∈ d.cruDevices, ∀ q ∈ c.ports, q.addr ≠ a) :
    d.cruTake a b n = d := by
  have devices : (d.cruDevices.map fun c => c.take a b) = d.cruDevices :=
    (List.map_congr_left fun c hc => CruDevice.take_of_not_decoded b (ports c hc)).trans (List.map_id _)
  rw [Devices.cruTake, psiTake_of_not_decoded b n psi, devices]

theorem Psi.seeS0_slot (p : Psi) (line : Bool) : (p.seeS0 line).slot = p.slot := by
  unfold Psi.seeS0 Psi.leave
  split <;> rfl

theorem busOut_unwatched_of_not_decoded (a : Nat) (b : Bool) (s : State) (psi : ∀ p ∈ s.dev.psi, a / 32 ≠ p.slot)
    (ports : ∀ d ∈ s.dev.cruDevices, ∀ q ∈ d.ports, q.addr ≠ a) :
    (busOut a b s).dev.unwatched = s.dev.unwatched := by
  have watching : ∀ p ∈ ((s.emit (.cruOut a b)).seeLine (a.testBit 4)).dev.psi, a / 32 ≠ p.slot := by
    simpa [Psi.seeS0_slot] using psi
  have taken : (busOut a b s).dev = ((s.emit (.cruOut a b)).seeLine (a.testBit 4)).dev :=
    Devices.cruTake_of_not_decoded b s.free watching ports
  rw [taken, seeLine_unwatched, emit_unwatched]

/-! ## A transfer -/

/-- The size of the CRU on the external lines (R81). -/
theorem cruAddr_external (base k : Nat) (part : s.cfg.part ≠ .tms9940) :
    cruAddr s.cfg.part base k = (base + k) % if s.cfg.part = .tms9900 then 4096 else 2048 := by
  unfold cruAddr cruWidth
  cases h : s.cfg.part with
  | tms9900 => rfl
  | tms9980 => rfl
  | tms9940 => exact absurd h part

theorem cruSend_log (base n : Nat) (v : Word) (part : s.cfg.part ≠ .tms9940) (q : s.during = []) :
    (cruSend base n v s).dev.log =
      ((List.range n).map fun k => BusEvent.cruOut (cruAddr s.cfg.part base k) (v.getLsbD k)).reverse ++ s.dev.log := by
  induction n with
  | zero => rfl
  | succ n ih =>
    have quiet := cruSend_quiet s base n v q
    rw [cruSend_succ, cruOut_external _ _ (by simpa using part) quiet, busOut_log, ih, List.range_succ]
    simp

/-- One more bit received, on the external lines. -/
theorem cruReceive_succ_external (base n : Nat) (part : s.cfg.part ≠ .tms9940) (q : s.during = []) :
    cruReceive base (n + 1) s =
      (withBit (cruReceive base n s).1 n (busIn (cruAddr s.cfg.part base n) (cruReceive base n s).2).1,
        (busIn (cruAddr s.cfg.part base n) (cruReceive base n s).2).2) := by
  rw [cruReceive_succ, cruIn_external _ (by simpa using part) (cruReceive_quiet s base n q), cruReceive_cfg]

theorem cruReceive_log (base n : Nat) (part : s.cfg.part ≠ .tms9940) (q : s.during = []) :
    (cruReceive base n s).2.dev.log =
      ((List.range n).map fun k => BusEvent.cruIn (cruAddr s.cfg.part base k)).reverse ++ s.dev.log := by
  induction n with
  | zero => rfl
  | succ n ih =>
    rw [cruReceive_succ_external base n part q, busIn_log, ih, List.range_succ]
    simp

/-- Where no TMS 9901 is there, receiving bits is only recorded. -/
theorem cruReceive_dev_of_no_psi (base n : Nat) (part : s.cfg.part ≠ .tms9940) (q : s.during = [])
    (noPsi : s.dev.psi = []) :
    (cruReceive base n s).2.dev = { s.dev with log := (cruReceive base n s).2.dev.log } := by
  induction n with
  | zero => rfl
  | succ n ih =>
    have still : (cruReceive base n s).2.dev.psi = [] := by rw [ih]; exact noPsi
    rw [cruReceive_succ_external base n part q]
    simp only []
    rw [busIn_dev_of_no_psi _ _ still, ih]

/-- Bit `k` that comes in is the level driven at its address, which the bits before it do not change. -/
theorem cruReceive_bit (base n k : Nat) (level : Bool) (part : s.cfg.part ≠ .tms9940) (q : s.during = [])
    (noPsi : s.dev.psi = []) (hn : n ≤ 16) (hk : k < n)
    (driven : s.dev.cruLevel (cruAddr s.cfg.part base k) = some level) :
    (cruReceive base n s).1.getLsbD k = level := by
  induction n with
  | zero => omega
  | succ n ih =>
    rw [cruReceive_succ_external base n part q, withBit_getLsbD _ _ _ _ (by omega)]
    split
    next last =>
      subst last
      have devices := cruReceive_dev_of_no_psi base k part q noPsi
      refine busIn_value _ _ level ?_ ?_
      · rw [devices]; exact noPsi
      · rw [devices]; exact driven
    next before => exact ih (by omega) (by omega)

/-- Settles O53: a transfer is its cycles, one after another, and each cycle is a law above. -/
theorem cruTransfers : Obligations.cru_transfers := by
  intro base n v s q
  refine ⟨fun hn part => ?transfer, fun a b part => ?cycle, fun a b batch later =>
    ⟨cruIn_setDuring a batch later s q, cruOut_setDuring a b batch later s q⟩⟩
  case transfer =>
    simp only [← cruAddr_external base _ part]
    exact ⟨cruSend_log base n v part q, cruReceive_log base n part q,
      fun k level hk noPsi => cruReceive_bit base n k level part q noPsi hn hk⟩
  case cycle =>
    rw [cruOut_external a b part q]
    exact ⟨rfl, busOut_unwatched_of_not_decoded a b s⟩

end Sys2Proof.Machine
end

section
/-! PROOFS. The CRU instructions: SBO, SBZ, TB (O55), LDCR (O52) and STCR (O54). Each reads what it needs from memory,
makes its CRU cycles, which write only devices, and then stores and sets flags. -/

namespace Sys2Proof.Machine

variable {s t u : State} {fs gs : List Flag}

/-! ## Frames, one after another -/

theorem KeptCpu.trans (first : KeptCpu s t) (second : KeptCpu t u) : KeptCpu s u := by
  obtain ⟨cfg, halted, inhibit, xword, env, during⟩ := first
  obtain ⟨cfg', halted', inhibit', xword', env', during'⟩ := second
  exact ⟨cfg'.trans cfg, halted'.trans halted, inhibit'.trans inhibit, xword'.trans xword, env'.trans env,
    during'.trans during⟩

/-- What is kept of `st` depends on the state before only through `st`. -/
theorem stKeptBut_pre (same : t.st = s.st) (h : StKeptBut fs t u) : StKeptBut fs s u :=
  stKeptBut_trans (stKeptBut_of_st same) h

theorem Frame.trans (first : Frame fs s t) (second : Frame gs t u) : Frame (fs ++ gs) s u := by
  obtain ⟨st, pc, wp, cpu, dev⟩ := first
  obtain ⟨st', pc', wp', cpu', dev'⟩ := second
  exact ⟨stKeptBut_trans st st', pc'.trans pc, wp'.trans wp, cpu.trans cpu', dev'.trans dev⟩

/-- Memory that was kept stays kept under an operation that writes none of it. -/
theorem MemKept.of_mem (h : MemKept s t) (cfg : u.cfg = t.cfg) (mem : u.mem = t.mem) : MemKept s u := fun a =>
  (peekByte_of_mem cfg mem a).trans (h a)

theorem setLAE_frame {w : Nat} (v : BitVec w) (s : State) : Frame [.l, .a, .eq] s (setLAE v s) :=
  ⟨setLAE_stKeptBut s v, by simp, by simp, ⟨by simp, by simp, by simp, by simp, by simp, by simp⟩, by simp⟩

theorem setParity_frame (b : Byte) (s : State) : Frame [.op] s (setParity b s) :=
  ⟨setParity_stKeptBut s b, by simp, by simp, ⟨by simp, by simp, by simp, by simp, by simp, by simp⟩, by simp⟩

/-- OP is none of L>, A> and EQ. -/
theorem setParity_laeOf {w : Nat} {v : BitVec w} (b : Byte) (h : LaeOf s v) : LaeOf (setParity b s) v := by
  simpa [LaeOf, setParity] using h

theorem writeOperand8_frame (d : Fetched 8) (b : Byte) (s : State) (q : s.during = []) :
    Frame [] s (writeOperand8 d b s) := writeWord_frame _ _ s q

theorem readOperand8_keptCpu (o : Operand) (s : State) (q : s.during = []) : KeptCpu s (readOperand8 o s).state :=
  ⟨by simp, by simp, by simp, by simp, by simp, by simp [q]⟩

theorem readOperand16_keptCpu (o : Operand) (s : State) (q : s.during = []) : KeptCpu s (readOperand16 o s).state :=
  ⟨by simp, by simp, by simp, by simp, by simp, by simp [q]⟩

/-! ## The read of R12 and the CRU cycles -/

/-- The CPU and memory are as before; only devices, and free values used, can differ. -/
structure OnlyDevices (s t : State) : Prop where
  cpu : KeptCpu s t
  mem : t.mem = s.mem
  pc : t.pc = s.pc
  wp : t.wp = s.wp
  st : t.st = s.st

namespace OnlyDevices

theorem trans (first : OnlyDevices s t) (second : OnlyDevices t u) : OnlyDevices s u where
  cpu := first.cpu.trans second.cpu
  mem := second.mem.trans first.mem
  pc := second.pc.trans first.pc
  wp := second.wp.trans first.wp
  st := second.st.trans first.st

theorem memKept (h : OnlyDevices s t) : MemKept s t := memKept_of_mem h.cpu.1 h.mem

/-- What one bit that goes out leaves as it is. -/
theorem leaves (h : OnlyDevices s t) : MemKept s t ∧ t.pc = s.pc ∧ t.wp = s.wp ∧ t.st = s.st ∧ KeptCpu s t :=
  ⟨h.memKept, h.pc, h.wp, h.st, h.cpu⟩

theorem quiet (h : OnlyDevices s t) (q : s.during = []) : t.during = [] := by
  obtain ⟨-, -, -, -, -, during⟩ := h.cpu
  exact during.trans q

theorem readReg (r : Reg) (q : s.during = []) : OnlyDevices s (readReg r s).2 :=
  ⟨⟨by simp, by simp, by simp, by simp, by simp, by simp [q]⟩, by simp [q], by simp, by simp, by simp⟩

theorem cruIn (a : Nat) (q : s.during = []) : OnlyDevices s (cruIn a s).2 :=
  ⟨⟨by simp, by simp, by simp, by simp, by simp, by simp [q]⟩, by simp [q], by simp, by simp, by simp⟩

theorem cruOut (a : Nat) (b : Bool) (q : s.during = []) : OnlyDevices s (cruOut a b s) :=
  ⟨⟨by simp, by simp, by simp, by simp, by simp, by simp [q]⟩, by simp [q], by simp, by simp, by simp⟩

theorem cruSend (base n : Nat) (v : Word) (q : s.during = []) : OnlyDevices s (cruSend base n v s) :=
  ⟨⟨by simp, by simp, by simp, by simp, by simp, by simp [q]⟩, by simp [q], by simp, by simp, by simp⟩

theorem cruReceive (base n : Nat) (q : s.during = []) : OnlyDevices s (cruReceive base n s).2 :=
  ⟨⟨by simp, by simp, by simp, by simp, by simp, by simp [q]⟩, by simp [q], by simp, by simp, by simp⟩

/-- A cycle of SBO or SBZ: R12 is read, and one bit goes out. -/
theorem readReg_cruOut (r : Reg) (a : Nat) (b : Bool) (q : s.during = []) :
    OnlyDevices s (Machine.cruOut a b (Machine.readReg r s).2) :=
  (readReg r q).trans (cruOut a b ((readReg r q).quiet q))

/-- A cycle of TB: R12 is read, and one bit comes in. -/
theorem readReg_cruIn (r : Reg) (a : Nat) (q : s.during = []) :
    OnlyDevices s (Machine.cruIn a (Machine.readReg r s).2).2 :=
  (readReg r q).trans (cruIn a ((readReg r q).quiet q))

/-- The transfer of LDCR: R12 is read, and bits go out. -/
theorem readReg_cruSend (r : Reg) (base n : Nat) (v : Word) (q : s.during = []) :
    OnlyDevices s (Machine.cruSend base n v (Machine.readReg r s).2) :=
  (readReg r q).trans (cruSend base n v ((readReg r q).quiet q))

/-- The transfer of STCR: R12 is read, and bits come in. -/
theorem readReg_cruReceive (r : Reg) (base n : Nat) (q : s.during = []) :
    OnlyDevices s (Machine.cruReceive base n (Machine.readReg r s).2).2 :=
  (readReg r q).trans (cruReceive base n ((readReg r q).quiet q))

/-- What the cycles leave as it is, when a store or flags follow them; those change no devices. -/
theorem then_frame (h : OnlyDevices s t) (f : Frame fs t u) :
    u.pc = s.pc ∧ u.wp = s.wp ∧ StKeptBut fs s u ∧ KeptCpu s u ∧ u.dev.unwatched = t.dev.unwatched := by
  obtain ⟨st, pc, wp, cpu, dev⟩ := f
  exact ⟨pc.trans h.pc, wp.trans h.wp, stKeptBut_pre h.st st, h.cpu.trans cpu, dev⟩

/-- A store after the cycles is a store after what stood before them. -/
theorem then_byteStored {a : Word} {v : Byte} (h : OnlyDevices s t) (stored : ByteStored t u a v) :
    ByteStored s u a v := byteStored_pre stored h.cpu.1 h.mem

theorem then_wordStored {a v : Word} (h : OnlyDevices s t) (stored : WordStored t u a v) : WordStored s u a v :=
  wordStored_pre stored h.cpu.1 h.mem

end OnlyDevices

/-! ## SBO, SBZ and TB -/

/-- The bit a signed displacement reaches, as a sum of integers modulo the CRU's size (R82, D17). -/
theorem cruDispAddr_eq_emod (part : Part) (base : Nat) (disp : BitVec 8) :
    cruDispAddr part base disp = ((base + disp.toInt) % (2 ^ cruWidth part : Nat)).toNat := by
  have extended : (disp.signExtend 16).toNat = disp.toNat + if disp.msb then 65536 - 256 else 0 := by
    have fits : disp.toNat % 2 ^ 16 = disp.toNat := Nat.mod_eq_of_lt (by omega)
    rw [BitVec.toNat_signExtend, BitVec.toNat_setWidth, fits]
  have signed : disp.toInt = if disp.msb then (disp.toNat : Int) - 256 else disp.toNat := by
    simp [BitVec.toInt_eq_msb_cond]
  have sum : (BitVec.ofNat 16 base + disp.signExtend 16).toNat = (base + (disp.signExtend 16).toNat) % 65536 := by
    simp
  rw [cruDispAddr, sum, extended, signed]
  cases part <;> simp only [cruWidth] <;> split <;> omega

theorem setEq_frame (b : Bool) (s : State) : Frame [.eq] s (s.setFlag .eq b) :=
  ⟨setFlag_stKeptBut s .eq b, by simp, by simp, ⟨by simp, by simp, by simp, by simp, by simp, by simp⟩, by simp⟩

/-- Settles O55: the address is the sum modulo the CRU's size, and the cycle there writes only devices; TB then writes
EQ. -/
theorem singleBitInstructions : Obligations.single_bit_instructions := by
  intro disp s q r size a
  have width : size = 2 ^ cruWidth s.cfg.part := by
    simp only [size]
    cases s.cfg.part <;> rfl
  have address : a = cruDispAddr s.cfg.part (cruBase s.cfg.part r.1) disp := by
    rw [cruDispAddr_eq_emod, cruBase, ← width]
    rfl
  rw [address]
  have sent (b : Bool) := OnlyDevices.readReg_cruOut 12 (cruDispAddr s.cfg.part (cruBase s.cfg.part r.1) disp) b q
  have tested := OnlyDevices.readReg_cruIn 12 (cruDispAddr s.cfg.part (cruBase s.cfg.part r.1) disp) q
  obtain ⟨pc, wp, st, cpu, -⟩ := tested.then_frame (setEq_frame (cruIn _ r.2).1 _)
  exact ⟨⟨_, rfl, rfl, (sent true).leaves⟩, ⟨_, rfl, rfl, (sent false).leaves⟩,
    ⟨_, rfl, rfl, flag_setFlag _ .eq .eq _, tested.memKept.of_mem rfl rfl, pc, wp, st, cpu⟩⟩

/-! ## LDCR and STCR -/

/-- The flags of a transfer of 1 to 8 bits. -/
theorem setParity_setLAE_frame (v : Byte) (s : State) :
    Frame [.l, .a, .eq, .op] s (setParity v (setLAE v s)) := (setLAE_frame v s).trans (setParity_frame v _)

/-- Flags are not in memory. -/
theorem ByteStored.setParity_setLAE {a : Word} {v : Byte} (b : Byte) (h : ByteStored s t a v) :
    ByteStored s (setParity b (setLAE b t)) a v := byteStored_of_mem h (by simp) (by simp)

theorem WordStored.setLAE {a v : Word} (x : Word) (h : WordStored s t a v) : WordStored s (setLAE x t) a v :=
  wordStored_of_mem h (by simp) (by simp)

theorem MemKept.setParity_setLAE (b : Byte) (h : MemKept s t) : MemKept s (setParity b (setLAE b t)) :=
  h.of_mem (by simp) (by simp)

theorem MemKept.setLAE {w : Nat} (v : BitVec w) (h : MemKept s t) : MemKept s (setLAE v t) :=
  h.of_mem (by simp) (by simp)

/-! The two sizes of each instruction (R140). -/

theorem exec_ldcr_byte {cnt : BitVec 4} (src : Operand) (s : State) (small : cruCount cnt ≤ 8) :
    exec (.ldcr cnt src) s = .next
      (let v := readOperand8 src s
       let r12 := readReg 12 v.state
       setParity v.value (setLAE v.value
        (cruSend (cruBase s.cfg.part r12.1) (cruCount cnt) (v.value.setWidth 16) r12.2))) := if_pos small

theorem exec_ldcr_word {cnt : BitVec 4} (src : Operand) (s : State) (large : 8 < cruCount cnt) :
    exec (.ldcr cnt src) s = .next
      (let v := readOperand16 src s
       let r12 := readReg 12 v.state
       setLAE v.value (cruSend (cruBase s.cfg.part r12.1) (cruCount cnt) v.value r12.2)) := if_neg (by omega)

theorem exec_stcr_byte {cnt : BitVec 4} (dst : Operand) (s : State) (small : cruCount cnt ≤ 8) :
    exec (.stcr cnt dst) s = .next
      (let d := readOperand8 dst s
       let r12 := readReg 12 d.state
       let v := cruReceive (cruBase s.cfg.part r12.1) (cruCount cnt) r12.2
       setParity (v.1.setWidth 8) (setLAE (v.1.setWidth 8) (writeOperand8 d (v.1.setWidth 8) v.2))) := if_pos small

theorem exec_stcr_word {cnt : BitVec 4} (dst : Operand) (s : State) (large : 8 < cruCount cnt) :
    exec (.stcr cnt dst) s = .next
      (let d := readOperand16 dst s
       let r12 := readReg 12 d.state
       let v := cruReceive (cruBase s.cfg.part r12.1) (cruCount cnt) r12.2
       setLAE v.1 (writeWord d.addr v.1 v.2)) := if_neg (by omega)

/-- A transfer fits a word (R140). -/
theorem cruCount_le (cnt : BitVec 4) : cruCount cnt ≤ 16 := by
  unfold cruCount
  split
  · exact le_rfl
  · exact cnt.isLt.le

/-- The value of `n` bits is below `2^n`: the bits above are 0 (R142). -/
theorem cruReceive_lt (base n : Nat) (s : State) (hn : n ≤ 16) : (cruReceive base n s).1.toNat < 2 ^ n :=
  Nat.lt_pow_two_of_testBit _ fun k hk => cruReceive_high s base n k hn hk

/-- Settles O52: the operand and R12 are read, the transfer writes only devices, and flags follow. -/
theorem ldcrResult : Obligations.ldcr_result := by
  intro cnt src s q n b rb v rv
  by_cases small : n ≤ 8
  case pos =>
    have quiet : b.state.during = [] := readOperand8_quiet src s q
    have sent := OnlyDevices.readReg_cruSend 12 (cruBase s.cfg.part rb.1) n (b.value.setWidth 16) quiet
    obtain ⟨pc, wp, st, cpu, -⟩ := sent.then_frame (setParity_setLAE_frame b.value _)
    refine ⟨_, exec_ldcr_byte src s small, (readOperand8_keptCpu src s q).trans cpu, wp.trans (readOperand8_wp src s),
      fun _ => ?_, fun large => absurd small (Nat.not_le.mpr large)⟩
    exact ⟨setParity_laeOf _ (setLAE_laeOf _ _), setParity_parityOf _ _, sent.memKept.setParity_setLAE _, pc,
      stKeptBut_pre (readOperand8_st src s) st, (setParity_dev _ _).trans (setLAE_dev _ _)⟩
  case neg =>
    have quiet : v.state.during = [] := readOperand16_quiet src s q
    have sent := OnlyDevices.readReg_cruSend 12 (cruBase s.cfg.part rv.1) n v.value quiet
    obtain ⟨pc, wp, st, cpu, -⟩ := sent.then_frame (setLAE_frame v.value _)
    refine ⟨_, exec_ldcr_word src s (Nat.not_le.mp small), (readOperand16_keptCpu src s q).trans cpu,
      wp.trans (readOperand16_wp src s), fun few => absurd few small, fun _ => ?_⟩
    exact ⟨setLAE_laeOf _ _, sent.memKept.setLAE _, pc, stKeptBut_pre (readOperand16_st src s) st, setLAE_dev _ _⟩

/-- Settles O54: the destination and R12 are read, the transfer writes only devices, and the store and flags follow. -/
theorem stcrResult : Obligations.stcr_result := by
  intro cnt dst s q n b rb ib w rr iw
  by_cases small : n ≤ 8
  case pos =>
    have quiet : b.state.during = [] := readOperand8_quiet dst s q
    have received := OnlyDevices.readReg_cruReceive 12 (cruBase s.cfg.part rb.1) n quiet
    have stored := received.then_byteStored (writeOperand8_stored dst (ib.1.setWidth 8) s ib.2 q
      (received.quiet quiet) (received.cpu.1.trans (readOperand8_cfg dst s)) received.mem)
    obtain ⟨pc, wp, st, cpu, dev⟩ := received.then_frame
      ((writeOperand8_frame b (ib.1.setWidth 8) ib.2 (received.quiet quiet)).trans (setParity_setLAE_frame _ _))
    refine ⟨_, exec_stcr_byte dst s small, (readOperand8_keptCpu dst s q).trans cpu, wp.trans (readOperand8_wp dst s),
      fun _ => ?_, fun large => absurd small (Nat.not_le.mpr large)⟩
    exact ⟨stored.setParity_setLAE _, cruReceive_lt _ n _ (cruCount_le cnt), setParity_laeOf _ (setLAE_laeOf _ _),
      setParity_parityOf _ _, pc, stKeptBut_pre (readOperand8_st dst s) st, dev⟩
  case neg =>
    have quiet : w.state.during = [] := readOperand16_quiet dst s q
    have received := OnlyDevices.readReg_cruReceive 12 (cruBase s.cfg.part rr.1) n quiet
    have stored := received.then_wordStored (writeWord_stored w.addr iw.1 iw.2 (received.quiet quiet))
    obtain ⟨pc, wp, st, cpu, dev⟩ := received.then_frame
      ((writeWord_frame w.addr iw.1 iw.2 (received.quiet quiet)).trans (setLAE_frame iw.1 _))
    refine ⟨_, exec_stcr_word dst s (Nat.not_le.mp small), (readOperand16_keptCpu dst s q).trans cpu,
      wp.trans (readOperand16_wp dst s), fun few => absurd few small, fun _ => ?_⟩
    exact ⟨stored.setLAE _, cruReceive_lt _ n _ (cruCount_le cnt), setLAE_laeOf _ _, pc,
      stKeptBut_pre (readOperand16_st dst s) st, dev⟩

end Sys2Proof.Machine
end

section
/-! PROOFS. MOV, SOC, SZC and INV (O38), MOVB, SOCB and SZCB (O39). Each ends in one shape: the result is stored at the
destination as it was read, and the flags compare the result with 0. What that shape does is said once for words and
once for bytes. -/

namespace Sys2Proof.Machine

/-! ## A result stored, with its flags -/

/-- A word result: the store writes only memory, and `SetLAE` only its three flags (R35). -/
theorem setLAE_writeWord_spec (a r : Word) (s : State) (q : s.during = []) :
    WordStored s (setLAE r (writeWord a r s)) a r ∧ LaeOf (setLAE r (writeWord a r s)) r ∧
      Frame [.l, .a, .eq] s (setLAE r (writeWord a r s)) :=
  ⟨(writeWord_stored a r s q).setLAE r, setLAE_laeOf _ r, (writeWord_frame a r s q).trans (setLAE_frame r _)⟩

/-- A byte result, stored into the word read with the operand: no other byte changes (R65), and OP joins the flags
(R38). -/
theorem setParity_setLAE_writeOperand8_spec (o : Operand) (r : Byte) (s : State) (q : s.during = []) :
    let d := readOperand8 o s
    let t := setParity r (setLAE r (writeOperand8 d r d.state))
    ByteStored d.state t d.addr r ∧ LaeOf t r ∧ ParityOf t r ∧ Frame [.l, .a, .eq, .op] d.state t := by
  intro d t
  have quiet : d.state.during = [] := readOperand8_quiet o s q
  have stored : ByteStored d.state (writeOperand8 d r d.state) d.addr r :=
    writeOperand8_stored o r s d.state q quiet (readOperand8_cfg o s) rfl
  have frame : Frame [] d.state (writeOperand8 d r d.state) := writeOperand8_frame d r d.state quiet
  exact ⟨stored.setParity_setLAE r, setParity_laeOf r (setLAE_laeOf _ r), setParity_parityOf _ r,
    frame.trans (setParity_setLAE_frame r _)⟩

/-! ## The instructions -/

/-- Settles O38: the operands are read, and the result is stored with its flags. -/
theorem moveAndLogicWords : Obligations.move_and_logic_words := by
  intro src dst s q a d o
  have sourceQuiet : a.state.during = [] := readOperand16_quiet src s q
  have stored (r : Word) := setLAE_writeWord_spec d.addr r d.state (readOperand16_quiet dst a.state sourceQuiet)
  have inverted := setLAE_writeWord_spec o.addr (~~~o.value) o.state (readOperand16_quiet dst s q)
  exact ⟨⟨_, rfl, stored a.value⟩, ⟨_, rfl, stored (d.value ||| a.value)⟩, ⟨_, rfl, stored (d.value &&& ~~~a.value)⟩,
    ⟨_, rfl, inverted⟩⟩

/-- Settles O39: the operands are read, and the result is stored with its flags and OP. -/
theorem moveAndLogicBytes : Obligations.move_and_logic_bytes := by
  intro src dst s q a d
  have stored (r : Byte) := setParity_setLAE_writeOperand8_spec dst r a.state (readOperand8_quiet src s q)
  exact ⟨⟨_, rfl, stored a.value⟩, ⟨_, rfl, stored (d.value ||| a.value)⟩, ⟨_, rfl, stored (d.value &&& ~~~a.value)⟩⟩

end Sys2Proof.Machine
end

section
/-! PROOFS. The sum `AddW` and what C, OV and AC say of it (R37, R170), in terms of numbers: for any sum, for a sum
without a carry in, and for a difference, which is the sum with the complement and a carry in. -/

namespace Sys2Proof.Machine

variable {w : Nat} (a b : BitVec w)

/-! ## The complement -/

theorem toNat_not_add_toNat : (~~~b).toNat + b.toNat + 1 = 2 ^ w := by
  have small := b.isLt
  rw [BitVec.toNat_not]
  omega

/-- The low part of a complement is the complement of the low part. -/
theorem toNat_not_mod {k : Nat} (h : k ≤ w) : (~~~b).toNat % 2 ^ k + b.toNat % 2 ^ k + 1 = 2 ^ k := by
  have low := toNat_not_add_toNat (b.setWidth k)
  rwa [← BitVec.setWidth_not h, BitVec.toNat_setWidth, BitVec.toNat_setWidth] at low

theorem two_pow_eq_two_mul (pos : 0 < w) : 2 ^ w = 2 * 2 ^ (w - 1) := by
  rw [← Nat.pow_succ', Nat.succ_eq_add_one, Nat.sub_add_cancel pos]

theorem toInt_not_eq (pos : 0 < w) : (~~~b).toInt = -b.toInt - 1 := by
  have complement := toNat_not_add_toNat b
  have twice := two_pow_eq_two_mul pos
  rw [BitVec.toInt_eq_toNat_cond, BitVec.toInt_eq_toNat_cond]
  split <;> split <;> omega

/-! ## The result and OV -/

/-- A difference is the sum with the complement and 1 more (R37). -/
theorem addResult_not : addResult a (~~~b) true = a - b := by
  have complement : (~~~b).toNat + 1 = 2 ^ w - b.toNat := by
    have := toNat_not_add_toNat b
    omega
  apply BitVec.eq_of_toNat_eq
  rw [addResult, BitVec.toNat_ofNat, BitVec.toNat_sub, Bool.toNat_true, Nat.add_assoc, complement, Nat.add_comm]

/-- The sum wraps at most once. -/
theorem addResult_toNat_cases (c : Bool) (pos : 0 < w) :
    (addResult a b c).toNat = a.toNat + b.toNat + c.toNat ∨
      (addResult a b c).toNat + 2 ^ w = a.toNat + b.toNat + c.toNat := by
  have ha := a.isLt
  have hb := b.isLt
  have hc := c.toNat_le
  have two : 1 < 2 ^ w := Nat.one_lt_two_pow pos.ne'
  rw [addResult, BitVec.toNat_ofNat]
  rcases Nat.lt_or_ge (a.toNat + b.toNat + c.toNat) (2 ^ w) with fits | wraps
  · exact .inl (Nat.mod_eq_of_lt fits)
  · rw [Nat.mod_eq_sub_mod wraps, Nat.mod_eq_of_lt (by omega)]
    omega

/-- OV is 1 exactly when the signed sum does not fit (R37). -/
theorem addOverflow_iff (c : Bool) (pos : 0 < w) :
    addOverflow a b c = true ↔ (addResult a b c).toInt ≠ a.toInt + b.toInt + c.toNat := by
  have ha := a.isLt
  have hb := b.isLt
  have hr := (addResult a b c).isLt
  have hc := c.toNat_le
  have wrapped := addResult_toNat_cases a b c pos
  simp only [addOverflow, BitVec.toInt_eq_toNat_cond, BitVec.msb_eq_decide, Bool.and_eq_true, beq_iff_eq, bne_iff_ne,
    ne_eq, decide_eq_decide]
  rw [two_pow_eq_two_mul pos] at *
  generalize 2 ^ (w - 1) = half at *
  grind

/-! ## The sum and its flags together -/

/-- `AddW` of `a`, `b` and a carry in: what the result is, and when C, OV and AC are 1 (R37, R170). -/
structure AddGives (a b : BitVec w) (cin : Bool) (r : BitVec w) (carry overflow half : Prop) : Prop where
  result : addResult a b cin = r
  c : addCarry a b cin = true ↔ carry
  ov : addOverflow a b cin = true ↔ overflow
  ac : halfCarry a b cin = true ↔ half

/-- Any sum: C where it reaches `2^w`, OV where the signed sum does not fit, AC where the low parts carry. -/
theorem AddGives.of_sum {r : BitVec w} {cin : Bool} {carry overflow half : Prop} (pos : 0 < w)
    (result : addResult a b cin = r) (c : 2 ^ w ≤ a.toNat + b.toNat + cin.toNat ↔ carry)
    (ov : r.toInt ≠ a.toInt + b.toInt + cin.toNat ↔ overflow)
    (ac : 2 ^ (w - 4) ≤ a.toNat % 2 ^ (w - 4) + b.toNat % 2 ^ (w - 4) + cin.toNat ↔ half) :
    AddGives a b cin r carry overflow half where
  result := result
  c := decide_eq_true_iff.trans c
  ov := (addOverflow_iff a b cin pos).trans (by rw [result, ov])
  ac := decide_eq_true_iff.trans ac

theorem addGives_add (pos : 0 < w) :
    AddGives a b false (a + b) (2 ^ w ≤ a.toNat + b.toNat) ((a + b).toInt ≠ a.toInt + b.toInt)
      (2 ^ (w - 4) ≤ a.toNat % 2 ^ (w - 4) + b.toNat % 2 ^ (w - 4)) :=
  .of_sum a b pos (addResult_false a b) (by simp) (by simp) (by simp)

/-- The carries of a difference are 1 for no borrow. -/
theorem addGives_sub (pos : 0 < w) :
    AddGives a (~~~b) true (a - b) (b.toNat ≤ a.toNat) ((a - b).toInt ≠ a.toInt - b.toInt)
      (b.toNat % 2 ^ (w - 4) ≤ a.toNat % 2 ^ (w - 4)) := by
  have complement := toNat_not_add_toNat b
  have low := toNat_not_mod b (Nat.sub_le w 4)
  refine .of_sum a (~~~b) pos (addResult_not a b) ?_ ?_ ?_
  · simp only [Bool.toNat_true]
    omega
  · rw [toInt_not_eq b pos, Bool.toNat_true]
    exact not_congr (by omega)
  · simp only [Bool.toNat_true]
    omega

/-! ## The constants INC, INCT, DEC and DECT add, and the negation of NEG

For a constant, what C, OV and AC say of the sum is arithmetic of one number below 2^16. -/

section
variable (v : Word)

theorem addGives_inc : AddGives v 1 false (v + 1) (v = 0xFFFF) (v = 0x7FFF) (v.toNat % 4096 = 4095) := by
  refine .of_sum v 1 (by decide) (addResult_false v 1) ?_ ?_ ?_ <;>
    simp [BitVec.toInt_eq_toNat_cond, BitVec.toNat_eq] <;> omega

theorem addGives_inct : AddGives v 2 false (v + 2) (v = 0xFFFE ∨ v = 0xFFFF) (v = 0x7FFE ∨ v = 0x7FFF)
    (4094 ≤ v.toNat % 4096) := by
  refine .of_sum v 2 (by decide) (addResult_false v 2) ?_ ?_ ?_ <;>
    simp [BitVec.toInt_eq_toNat_cond, BitVec.toNat_eq] <;> omega

/-- DEC adds 0xFFFF, that is -1. -/
theorem addGives_dec : AddGives v 0xFFFF false (v - 1) (v ≠ 0) (v = 0x8000) (v.toNat % 4096 ≠ 0) := by
  refine .of_sum v 0xFFFF (by decide) (by rw [addResult_false]; bv_omega) ?_ ?_ ?_ <;>
    simp [BitVec.toInt_eq_toNat_cond, BitVec.toNat_eq] <;> omega

/-- DECT adds 0xFFFE, that is -2. -/
theorem addGives_dect : AddGives v 0xFFFE false (v - 2) (v ≠ 0 ∧ v ≠ 1) (v = 0x8000 ∨ v = 0x8001)
    (2 ≤ v.toNat % 4096) := by
  refine .of_sum v 0xFFFE (by decide) (by rw [addResult_false]; bv_omega) ?_ ?_ ?_ <;>
    simp [BitVec.toInt_eq_toNat_cond, BitVec.toNat_eq] <;> omega

/-- NEG adds 1 to the complement. -/
theorem addGives_neg : AddGives (~~~v) 0 true (-v) (v = 0) (v = 0x8000) (v.toNat % 4096 = 0) := by
  have result : addResult (~~~v) 0 true = -v := by
    rw [BitVec.neg_eq_not_add]
    exact BitVec.eq_of_toNat_eq (by simp [addResult])
  refine .of_sum (~~~v) 0 (by decide) result ?_ ?_ ?_ <;>
    simp [BitVec.toInt_eq_toNat_cond, BitVec.toNat_eq] <;> omega

end

end Sys2Proof.Machine
end

section
/-! PROOFS. The memory-to-memory arithmetic: A, S and AI (O29), AB and SB (O30), C, CB and CI (O31), INC, INCT, DEC,
DECT and NEG (O32), ABS (O33), MPY (O34), DIV (O35), COC and CZC (O41), CLR, SETO and SWPB (O42). What adds and
subtracts ends in one shape, for words and for bytes: `ArithFlags`, the store of the sum, and the flags of the
result. -/

namespace Sys2Proof.Machine

variable {s t u : State} {fs gs : List Flag}

/-! ## What a frame says of flags -/

theorem Frame.weaken (h : Frame fs s t) (sub : fs ⊆ gs) : Frame gs s t :=
  ⟨stKeptBut_of_subset h.1 sub, h.2⟩

/-- A flag that is not listed is as before. -/
theorem Frame.flag_eq (h : Frame fs s t) {f : Flag} (other : f ∉ fs) : t.flag f = s.flag f :=
  h.1 (flagBit f) fun _ listed same => other (flagBit_inj same ▸ listed)

theorem Frame.cfg (h : Frame fs s t) : t.cfg = s.cfg := by
  obtain ⟨-, -, -, ⟨cfg, -⟩, -⟩ := h
  exact cfg

theorem Frame.quiet (h : Frame fs s t) (q : s.during = []) : t.during = [] := by
  obtain ⟨-, -, -, ⟨-, -, -, -, -, during⟩, -⟩ := h
  exact during.trans q

theorem setFlag_frame (f : Flag) (b : Bool) (s : State) : Frame [f] s (s.setFlag f b) :=
  ⟨setFlag_stKeptBut s f b, by simp, by simp, ⟨by simp, by simp, by simp, by simp, by simp, by simp⟩, by simp⟩

theorem setCmp_frame {w : Nat} (a b : BitVec w) (s : State) : Frame [.l, .a, .eq] s (setCmp a b s) :=
  ⟨setCmp_stKeptBut s a b, by simp, by simp, ⟨by simp, by simp, by simp, by simp, by simp, by simp⟩, by simp⟩

theorem arithFlags_frame {w : Nat} (op : ArithOp) (a b : BitVec w) (cin : Bool) (s : State) :
    Frame (arithFlagList s.cfg.part [.c, .ov]) s (arithFlags op a b cin s) :=
  ⟨arithFlags_stKeptBut s op a b cin, by simp, by simp, ⟨by simp, by simp, by simp, by simp, by simp, by simp⟩,
    by simp⟩

theorem Frame.laeOf {w : Nat} {v : BitVec w} (h : Frame [] s t) (lae : LaeOf s v) : LaeOf t v := by
  simpa only [LaeOf, h.flag_eq (List.not_mem_nil)] using lae

/-! ## A sum stored, with its flags -/

/-- A word sum: `ArithFlags`, the store of the sum, `SetLAE` of it. -/
def addStore16 (op : ArithOp) (addr a b : Word) (cin : Bool) (s : State) : State :=
  setLAE (addResult a b cin) (writeWord addr (addResult a b cin) (arithFlags op a b cin s))

/-- A byte sum, stored into the word read with the operand; OP joins the flags (R38). -/
def addStore8 (op : ArithOp) (d : Fetched 8) (a b : Byte) (cin : Bool) (s : State) : State :=
  let r := addResult a b cin
  setParity r (setLAE r (writeOperand8 d r (arithFlags op a b cin s)))

section
variable {w : Nat} {a b r : BitVec w} {cin : Bool} {carry overflow half : Prop} [Decidable carry] [Decidable overflow]
  [Decidable half]

/-- C, OV and AC are `ArithFlags`' still, where nothing after it writes them. -/
theorem AddGives.flags (h : AddGives a b cin r carry overflow half) {op : ArithOp}
    (after : Frame fs (arithFlags op a b cin s) t) (apart : Flag.c ∉ fs ∧ Flag.ov ∉ fs ∧ Flag.ac ∉ fs) :
    t.flag .c = decide carry ∧ t.flag .ov = decide overflow ∧
      (s.cfg.part = .tms9940 → op ∈ s.cfg.acWriters → t.flag .ac = decide half) := by
  obtain ⟨c, ov, ac⟩ := apart
  refine ⟨?_, ?_, fun part writer => ?_⟩
  · rw [after.flag_eq c, arithFlags_c, Bool.eq_iff_iff, h.c, decide_eq_true_iff]
  · rw [after.flag_eq ov, arithFlags_ov, Bool.eq_iff_iff, h.ov, decide_eq_true_iff]
  · rw [after.flag_eq ac, arithFlags_ac s op a b cin part (List.contains_iff_mem.mpr writer), Bool.eq_iff_iff, h.ac,
      decide_eq_true_iff]

end

section
variable {carry overflow half : Prop} [Decidable carry] [Decidable overflow] [Decidable half]

/-- Everything an add or subtract of words does. -/
theorem addStore16_spec {a b r : Word} {cin : Bool} (h : AddGives a b cin r carry overflow half) (op : ArithOp)
    (addr : Word) (s : State) (q : s.during = []) {p : Platform} (cfg : s.cfg = p) :
    let t := addStore16 op addr a b cin s
    WordStored s t addr r ∧ LaeOf t r ∧ t.flag .c = decide carry ∧ t.flag .ov = decide overflow ∧
      (p.part = .tms9940 → op ∈ p.acWriters → t.flag .ac = decide half) ∧
      Frame (arithFlagList p.part [.l, .a, .eq, .c, .ov]) s t := by
  subst cfg
  obtain ⟨stored, lae, frame⟩ := setLAE_writeWord_spec addr r (arithFlags op a b cin s) (by simp [q])
  obtain ⟨c, ov, ac⟩ := h.flags frame (by decide)
  rw [addStore16, h.result]
  refine ⟨wordStored_pre stored (by simp) (by simp), lae, c, ov, ac,
    ((arithFlags_frame op a b cin s).trans frame).weaken ?_⟩
  cases s.cfg.part <;> decide

/-- Everything an add or subtract of bytes does at an operand that has been read. -/
theorem addStore8_spec {a b r : Byte} {cin : Bool} (h : AddGives a b cin r carry overflow half) (op : ArithOp)
    (o : Operand) (s : State) (q : s.during = []) {p : Platform} (cfg : s.cfg = p) :
    let d := readOperand8 o s
    let t := addStore8 op d a b cin d.state
    ByteStored d.state t d.addr r ∧ LaeOf t r ∧ t.flag .c = decide carry ∧ t.flag .ov = decide overflow ∧
      ParityOf t r ∧ (p.part = .tms9940 → op ∈ p.acWriters → t.flag .ac = decide half) ∧
      Frame (arithFlagList p.part [.l, .a, .eq, .c, .ov, .op]) d.state t := by
  intro d t
  have dcfg : d.state.cfg = p := (readOperand8_cfg o s).trans cfg
  have quiet : (arithFlags op a b cin d.state).during = [] := by simp [d, q]
  have stored := writeOperand8_stored o r s (arithFlags op a b cin d.state) q quiet (by simp [d]) (by simp [d])
  have frame := (writeOperand8_frame d r _ quiet).trans (setParity_setLAE_frame r _)
  obtain ⟨c, ov, ac⟩ := h.flags frame (by decide)
  rw [dcfg] at ac
  simp only [t, addStore8, h.result]
  refine ⟨byteStored_pre (stored.setParity_setLAE r) (by simp) (by simp), setParity_laeOf r (setLAE_laeOf _ r), c, ov,
    setParity_parityOf _ r, ac, ((arithFlags_frame op a b cin d.state).trans frame).weaken ?_⟩
  rw [dcfg]
  cases p.part <;> decide

end

/-! ## Adds, subtracts, counts and NEG -/

/-- The flags, written before the store, leave the address of register `w` as it is. -/
theorem exec_ai (w : Reg) (s : State) :
    exec (.ai w) s = .next
      (let imm := fetch s
       let d := readReg w imm.2
       addStore16 .ai (regAddr s w) d.1 imm.1 false d.2) := by
  simp [exec, execAi, addStore16, writeReg, regAddr]

/-- Settles O29: each ends in `addStore16`, of a sum or of a difference. -/
theorem addAndSubtractWords : Obligations.add_and_subtract_words := by
  intro w src dst s q a d imm r
  have sourceQuiet : a.state.during = [] := readOperand16_quiet src s q
  have quiet : d.state.during = [] := readOperand16_quiet dst a.state sourceQuiet
  have cfg : d.state.cfg = s.cfg := by simp [d, a]
  have sum := addGives_add a.value d.value (by decide)
  have difference := addGives_sub d.value a.value (by decide)
  have immediate := addGives_add r.1 imm.1 (by decide)
  exact ⟨⟨_, rfl, addStore16_spec sum .a d.addr d.state quiet cfg⟩,
    ⟨_, rfl, addStore16_spec difference .s d.addr d.state quiet cfg⟩,
    ⟨_, exec_ai w s, addStore16_spec immediate .ai (regAddr s w) r.2 (by simp [r, imm, q]) (by simp [r, imm])⟩⟩

/-- Settles O30: each ends in `addStore8`, of a sum or of a difference. -/
theorem addAndSubtractBytes : Obligations.add_and_subtract_bytes := by
  intro src dst s q a d
  have quiet : a.state.during = [] := readOperand8_quiet src s q
  have cfg : a.state.cfg = s.cfg := readOperand8_cfg src s
  have sum := addGives_add a.value d.value (by decide)
  have difference := addGives_sub d.value a.value (by decide)
  exact ⟨⟨_, rfl, addStore8_spec sum .ab dst a.state quiet cfg⟩,
    ⟨_, rfl, addStore8_spec difference .sb dst a.state quiet cfg⟩⟩

/-- Settles O32: each is an addition of a constant, or of 1 to the complement. -/
theorem countAndNegate : Obligations.count_and_negate := by
  intro dst s q d
  simp only [and_imp]
  have quiet : d.state.during = [] := readOperand16_quiet dst s q
  have cfg : d.state.cfg = s.cfg := readOperand16_cfg dst s
  exact ⟨⟨_, rfl, addStore16_spec (addGives_inc d.value) .inc d.addr d.state quiet cfg⟩,
    ⟨_, rfl, addStore16_spec (addGives_inct d.value) .inct d.addr d.state quiet cfg⟩,
    ⟨_, rfl, addStore16_spec (addGives_dec d.value) .dec d.addr d.state quiet cfg⟩,
    ⟨_, rfl, addStore16_spec (addGives_dect d.value) .dect d.addr d.state quiet cfg⟩,
    ⟨_, rfl, addStore16_spec (addGives_neg d.value) .neg d.addr d.state quiet cfg⟩⟩

/-! ## Comparisons and mask tests -/

/-- OP is none of L>, A> and EQ. -/
theorem setParity_cmpOf {w : Nat} {a b : BitVec w} (v : Byte) (h : CmpOf s a b) : CmpOf (setParity v s) a b := by
  simpa [CmpOf, setParity] using h

/-- Everything a comparison does. -/
theorem setCmp_spec {w : Nat} (a b : BitVec w) (s : State) :
    CmpOf (setCmp a b s) a b ∧ MemKept s (setCmp a b s) ∧ Frame [.l, .a, .eq] s (setCmp a b s) :=
  ⟨setCmp_cmpOf s a b, memKept_of_mem (by simp) (by simp), setCmp_frame a b s⟩

/-- Settles O31: the operands are read, and only flags are written. -/
theorem compareResults : Obligations.compare_results := by
  intro w src dst s _ a d a8 d8 imm r
  refine ⟨⟨_, rfl, setCmp_spec a.value d.value d.state⟩, ?cb, ⟨_, rfl, setCmp_spec r.1 imm.1 r.2⟩⟩
  case cb =>
    obtain ⟨cmp, mem, frame⟩ := setCmp_spec a8.value d8.value d8.state
    exact ⟨_, rfl, setParity_cmpOf a8.value cmp, setParity_parityOf _ a8.value,
      mem.of_mem (setParity_cfg _ _) (setParity_mem _ _), frame.trans (setParity_frame a8.value _)⟩

/-- Two words have no 1 bit in common exactly when their conjunction is 0. -/
theorem and_beq_zero_iff {w : Nat} (a b : BitVec w) :
    (a &&& b == 0) = true ↔ ∀ k, a.getLsbD k = true → b.getLsbD k = false := by
  rw [beq_iff_eq]
  constructor
  · intro zero k one
    have bit : (a &&& b).getLsbD k = false := by simp [zero]
    simpa [one] using bit
  · intro apart
    apply BitVec.eq_of_getLsbD_eq
    intro k _
    cases one : a.getLsbD k with
    | false => simp [one]
    | true => simp [apart k one]

/-- Every 1 bit of `a` is a 1 bit of `b` exactly when `a` has none in common with the complement. -/
theorem and_not_beq_zero_iff {w : Nat} (a b : BitVec w) :
    (a &&& ~~~b == 0) = true ↔ ∀ k, a.getLsbD k = true → b.getLsbD k = true := by
  rw [and_beq_zero_iff]
  refine forall_congr' fun k => forall_congr' fun one => ?_
  simp [BitVec.lt_of_getLsbD one]

/-- Settles O41: the operands are read, and only EQ is written. -/
theorem maskTests : Obligations.mask_tests := by
  intro w src s _ a d
  have written (b : Bool) : (d.2.setFlag .eq b).flag .eq = b := flag_setFlag d.2 .eq .eq b
  have kept (b : Bool) : MemKept d.2 (d.2.setFlag .eq b) := memKept_of_mem (by simp) (by simp)
  refine ⟨⟨_, rfl, ?_, kept _, setEq_frame _ _⟩, ⟨_, rfl, ?_, kept _, setEq_frame _ _⟩⟩
  · rw [written, and_not_beq_zero_iff]
  · rw [written, and_beq_zero_iff]

/-! ## ABS -/

/-- The flags of ABS: the operand's, OV for 0x8000, and C 0 (R188). -/
def absFlags (v : Word) (s : State) : State := ((setLAE v s).setFlag .ov (v == 0x8000)).setFlag .c false

theorem absFlags_frame (v : Word) (s : State) : Frame [.l, .a, .eq, .c, .ov] s (absFlags v s) :=
  (((setLAE_frame v s).trans (setFlag_frame .ov _ _)).trans (setFlag_frame .c false _)).weaken (by decide)

theorem absFlags_laeOf (v : Word) (s : State) : LaeOf (absFlags v s) v := by
  simpa [LaeOf, absFlags] using setLAE_laeOf s v

theorem absFlags_ov (v : Word) (s : State) : (absFlags v s).flag .ov = decide (v = 0x8000) := by
  simp [absFlags, Bool.beq_eq_decide_eq]

theorem absFlags_c (v : Word) (s : State) : (absFlags v s).flag .c = false := by simp [absFlags]

@[simp] theorem absFlags_mem (v : Word) (s : State) : (absFlags v s).mem = s.mem := by simp [absFlags]

theorem exec_abs_negative (dst : Operand) (s : State) (h : (readOperand16 dst s).value.msb = true) :
    exec (.abs dst) s = .next
      (let d := readOperand16 dst s
       writeWord d.addr (-d.value) (absFlags d.value d.state)) := congrArg _ (if_pos h)

theorem exec_abs_nonnegative (dst : Operand) (s : State) (h : ¬ (readOperand16 dst s).value.msb = true) :
    exec (.abs dst) s = .next
      (let d := readOperand16 dst s
       absFlags d.value d.state) := congrArg _ (if_neg h)

/-- Settles O33: the flags are the operand's in both cases, and only a negative one is written. -/
theorem absResult : Obligations.abs_result := by
  intro dst s q d
  have flags : Frame _ d.state (absFlags d.value d.state) := absFlags_frame d.value d.state
  have mem : (absFlags d.value d.state).mem = d.state.mem := absFlags_mem d.value d.state
  have sign : d.value.msb = true ↔ d.value.toInt < 0 := by simp [BitVec.msb_eq_toInt]
  by_cases negative : d.value.msb = true
  case pos =>
    have quiet : (absFlags d.value d.state).during = [] := flags.quiet (readOperand16_quiet dst s q)
    have write := writeWord_frame d.addr (-d.value) _ quiet
    have stored := wordStored_pre (writeWord_stored d.addr (-d.value) _ quiet) flags.cfg mem
    exact ⟨_, exec_abs_negative dst s negative, fun _ => stored, fun h => absurd (sign.mp negative) (by omega),
      write.laeOf (absFlags_laeOf _ _), (write.flag_eq List.not_mem_nil).trans (absFlags_ov _ _),
      (write.flag_eq List.not_mem_nil).trans (absFlags_c _ _), flags.trans write⟩
  case neg =>
    exact ⟨_, exec_abs_nonnegative dst s negative, fun h => absurd (sign.mpr h) negative,
      fun _ => memKept_of_mem flags.cfg mem, absFlags_laeOf _ _, absFlags_ov _ _, absFlags_c _ _, flags⟩

/-! ## MPY and DIV: a register and the word after it -/

/-- Register `w` and the word after it, not R0 for R15 (D15), are written one after the other. -/
theorem writeReg_writeWord_spec (w : Reg) (hi lo : Word) (s : State) (q : s.during = []) :
    let m := writeReg w hi s
    let t := writeWord (regAddr m w + 2) lo m
    m.cfg = s.cfg ∧ WordStored s m (regAddr s w) hi ∧ WordStored m t (regAddr s w + 2) lo ∧ Frame [] s t := by
  intro m t
  have address : regAddr m w = regAddr s w := by simp [m, regAddr]
  have first : Frame [] s m := writeWord_frame (regAddr s w) hi s q
  have quiet : m.during = [] := first.quiet q
  refine ⟨first.cfg, writeWord_stored _ hi s q, ?_, first.trans (writeWord_frame _ lo m quiet)⟩
  rw [← address]
  exact writeWord_stored _ lo m quiet

/-- The two halves of a double word. -/
theorem toNat_halves (p : BitVec 32) : (p.extractLsb' 16 16).toNat * 65536 + (p.extractLsb' 0 16).toNat = p.toNat := by
  have small := p.isLt
  simp only [BitVec.extractLsb'_toNat, Nat.shiftRight_eq_div_pow]
  omega

/-- Settles O34: the product fits 32 bits, and its halves are written. -/
theorem mpyResult : Obligations.mpy_result := by
  intro w src s q a d
  have fits : a.value.toNat * d.1.toNat < 2 ^ 32 :=
    (Nat.mul_lt_mul'' a.value.isLt d.1.isLt).trans_eq (by norm_num)
  have product := toNat_halves (BitVec.ofNat 32 (a.value.toNat * d.1.toNat))
  rw [BitVec.toNat_ofNat, Nat.mod_eq_of_lt fits] at product
  have quiet : d.2.during = [] := by simp [d, a, q]
  have address : regAddr d.2 w = s.wp + 2 * w.setWidth 16 := by simp [regAddr, d, a]
  obtain ⟨cfg, high, low, frame⟩ := writeReg_writeWord_spec w _ _ d.2 quiet
  rw [address] at high low
  exact ⟨_, _, _, _, rfl, product, cfg.trans (by simp [d, a]), high, low, frame⟩

theorem exec_div_overflow (w : Reg) (src : Operand) (s : State)
    (h : (readOperand16 src s).value.toNat ≤ (readReg w (readOperand16 src s).state).1.toNat) :
    exec (.div w src) s = .next ((readReg w (readOperand16 src s).state).2.setFlag .ov true) := if_pos h

/-- How DIV ends where the quotient fits: OV 0, the quotient in register `w` and the remainder after it (R177). -/
def divStore (w : Reg) (n a : Nat) (s : State) : State :=
  let m := writeReg w (BitVec.ofNat 16 (n / a)) (s.setFlag .ov false)
  writeWord (regAddr m w + 2) (BitVec.ofNat 16 (n % a)) m

theorem exec_div_fits (w : Reg) (src : Operand) (s : State)
    (h : ¬ (readOperand16 src s).value.toNat ≤ (readReg w (readOperand16 src s).state).1.toNat) :
    exec (.div w src) s = .next
      (let a := readOperand16 src s
       let hi := readReg w a.state
       let lo := readWord (s.wp + 2 * w.setWidth 16 + 2) hi.2
       divStore w (hi.1.toNat * 65536 + lo.1.toNat) a.value.toNat lo.2) := by
  have address : regAddr (readReg w (readOperand16 src s).state).2 w = s.wp + 2 * w.setWidth 16 := by simp [regAddr]
  rw [← address]
  exact if_neg h

/-- A dividend whose high word is below the divisor has a quotient and a remainder that fit a word. -/
theorem quotient_remainder_fit (hi lo a : Word) (h : hi.toNat < a.toNat) :
    let n := hi.toNat * 65536 + lo.toNat
    (BitVec.ofNat 16 (n / a.toNat)).toNat = n / a.toNat ∧ (BitVec.ofNat 16 (n % a.toNat)).toNat = n % a.toNat := by
  intro n
  have small := lo.isLt
  have quotient : n / a.toNat < 65536 := Nat.div_lt_of_lt_mul (by omega)
  have remainder : n % a.toNat < a.toNat := Nat.mod_lt n (by omega)
  have divisor := a.isLt
  simp only [BitVec.toNat_ofNat]
  exact ⟨Nat.mod_eq_of_lt quotient, Nat.mod_eq_of_lt (by omega)⟩

/-- The division of naturals, whose two results fit a word. -/
theorem divStore_spec (w : Reg) (hi lo a : Word) (s : State) (q : s.during = []) (h : hi.toNat < a.toNat) :
    let t := divStore w (hi.toNat * 65536 + lo.toNat) a.toNat s
    t.flag .ov = false ∧ Frame [.ov] s t ∧
      ∃ (quo rem : Word) (m : State), quo.toNat * a.toNat + rem.toNat = hi.toNat * 65536 + lo.toNat ∧
        rem.toNat < a.toNat ∧ m.cfg = s.cfg ∧ WordStored s m (regAddr s w) quo ∧
        WordStored m t (regAddr s w + 2) rem := by
  intro t
  have flagged : Frame [.ov] s (s.setFlag .ov false) := setFlag_frame .ov false s
  obtain ⟨quotient, remainder⟩ := quotient_remainder_fit hi lo a h
  obtain ⟨cfg, first, second, frame⟩ := writeReg_writeWord_spec w _ _ (s.setFlag .ov false) (flagged.quiet q)
  refine ⟨(frame.flag_eq List.not_mem_nil).trans (flag_setFlag s .ov .ov false), flagged.trans frame, _, _, _, ?_, ?_,
    cfg, wordStored_pre first (by simp) (by simp), second⟩
  · rw [quotient, remainder]
    exact Nat.div_add_mod' _ _
  · rw [remainder]
    exact Nat.mod_lt _ (by omega)

/-- Settles O35: where the divisor is not greater OV alone is written, else the two results are stored. -/
theorem divResult : Obligations.div_result := by
  intro w src s q a hi lo
  by_cases overflow : a.value.toNat ≤ hi.1.toNat
  case pos =>
    have kept : MemKept hi.2 (hi.2.setFlag .ov true) := memKept_of_mem (by simp) (by simp)
    exact ⟨_, exec_div_overflow w src s overflow,
      fun _ => ⟨flag_setFlag hi.2 .ov .ov true, kept, setFlag_frame .ov true hi.2⟩,
      fun fits => absurd overflow (Nat.not_le.mpr fits)⟩
  case neg =>
    have quiet : lo.2.during = [] := by simp [lo, hi, a, q]
    have address : regAddr lo.2 w = s.wp + 2 * w.setWidth 16 := by simp [regAddr, lo, hi, a]
    have parameters : lo.2.cfg = s.cfg := by simp [lo, hi, a]
    obtain ⟨ov, frame, results⟩ := divStore_spec w hi.1 lo.1 a.value lo.2 quiet (Nat.not_le.mp overflow)
    rw [address, parameters] at results
    exact ⟨_, exec_div_fits w src s overflow, fun h => absurd h overflow, fun _ => ⟨ov, frame, results⟩⟩

/-! ## CLR, SETO and SWPB -/

/-- The bytes of a word in the other order. -/
theorem toNat_swapped (v : Word) :
    (v.extractLsb' 0 8 ++ v.extractLsb' 8 8 : Word).toNat = v.toNat % 256 * 256 + v.toNat / 256 := by
  have small := v.isLt
  have high : v.toNat / 256 % 256 < 2 ^ 8 := by omega
  simp only [BitVec.toNat_append, BitVec.extractLsb'_toNat, Nat.shiftRight_eq_div_pow]
  rw [← Nat.shiftLeft_add_eq_or_of_lt high, Nat.shiftLeft_eq]
  omega

/-- Settles O42: the operand is read and one store follows. -/
theorem clearSetSwap : Obligations.clear_set_swap := by
  intro dst s q d
  have quiet : d.state.during = [] := readOperand16_quiet dst s q
  have written (v : Word) :=
    And.intro (writeWord_stored d.addr v d.state quiet) (writeWord_frame d.addr v d.state quiet)
  exact ⟨⟨_, rfl, written 0x0000⟩, ⟨_, rfl, written 0xFFFF⟩, ⟨_, _, rfl, toNat_swapped d.value, written _⟩,
    Laws.RowMatch.clr dst, Laws.RowMatch.seto dst, Laws.RowMatch.swpb dst⟩

end Sys2Proof.Machine
end

section
/-! PROOFS. JMP (part of O46) and the twelve conditional jumps (O45): each runs `jumpIf`, so what a jump does is said
once, of `jumpIf`. -/

namespace Sys2Proof.Machine

/-! ## The target -/

/-- The target as a sum of integers: DISP words from the next word, modulo 2^16 (R114, D14). -/
theorem jumpTarget_toNat (pc : Word) (disp : BitVec 8) :
    ((jumpTarget pc disp).toNat : Int) = (pc.toNat + 2 * disp.toInt) % 65536 := by
  have extended : ((disp.signExtend 16).toNat : Int) = disp.toInt % 65536 := by
    rw [BitVec.signExtend, BitVec.toNat_ofInt]
    omega
  have doubled : (2 : Word).toNat = 2 := rfl
  simp only [jumpTarget, BitVec.toNat_add, BitVec.toNat_mul, doubled]
  omega

/-- From an even `pc` the target is even, so `setPc` drops nothing of it. -/
theorem even_jumpTarget {pc : Word} (disp : BitVec 8) (h : pc.getLsbD 0 = false) :
    even (jumpTarget pc disp) = jumpTarget pc disp := by
  have pcEven : pc.toNat / 2 * 2 = pc.toNat := by rw [← even_toNat, even_of_bit0 _ h]
  have target := jumpTarget_toNat pc disp
  apply BitVec.eq_of_toNat_eq
  rw [even_toNat]
  omega

/-! ## A jump -/

theorem jumpIf_only_pc (c : Bool) (disp : BitVec 8) (s : State) :
    jumpIf c disp s = { s with pc := (jumpIf c disp s).pc } := by
  cases c <;> rfl

theorem jumpIf_true_pc (disp : BitVec 8) {s : State} (h : s.pc.getLsbD 0 = false) :
    (jumpIf true disp s).pc = jumpTarget s.pc disp := even_jumpTarget disp h

theorem jumpIf_false (disp : BitVec 8) (s : State) : jumpIf false disp s = s := rfl

/-- An instruction that runs `jumpIf` on a test jumps when the condition the test decides holds. -/
theorem jumpsWhen_of_jumpIf {j : BitVec 8 → Instr} {test : State → Bool} {cond : State → Prop}
    (runs : ∀ disp s, exec (j disp) s = .next (jumpIf (test s) disp s)) (decides : ∀ s, test s = true ↔ cond s) :
    JumpsWhen j cond := by
  intro disp s pcEven
  refine ⟨_, runs disp s, jumpIf_only_pc _ disp s, fun holds => ?_, fun fails => ?_⟩
  · rw [(decides s).mpr holds, jumpIf_true_pc disp pcEven, jumpTarget_toNat]
  · have untaken : test s = false := Bool.eq_false_iff.mpr fun taken => fails ((decides s).mp taken)
    rw [untaken, jumpIf_false]

/-- Settles O45: the test of each jump decides its condition, and its word is its row's byte before the displacement. -/
theorem conditionalJumps : Obligations.conditional_jumps := by
  have ones (f : Flag) (s : State) : s.flag f = true ↔ s.flag f = true := Iff.rfl
  have zeros (f : Flag) (s : State) : (!s.flag f) = true ↔ s.flag f = false := by rw [Bool.not_eq_true']
  have bothZero (f g : Flag) (s : State) : (!s.flag f && !s.flag g) = true ↔ s.flag f = false ∧ s.flag g = false := by
    simp only [Bool.and_eq_true, zeros]
  exact ⟨jumpsWhen_of_jumpIf (fun _ _ => rfl) (ones .eq), jumpsWhen_of_jumpIf (fun _ _ => rfl) (zeros .eq),
    jumpsWhen_of_jumpIf (fun _ _ => rfl) (ones .a), jumpsWhen_of_jumpIf (fun _ _ => rfl) (bothZero .a .eq),
    jumpsWhen_of_jumpIf (fun _ _ => rfl) fun s => Bool.or_eq_true_iff,
    jumpsWhen_of_jumpIf (fun _ _ => rfl) fun s => by simp only [Bool.and_eq_true, zeros],
    jumpsWhen_of_jumpIf (fun _ _ => rfl) (bothZero .l .eq),
    jumpsWhen_of_jumpIf (fun _ _ => rfl) fun s => by simp only [Bool.or_eq_true, zeros],
    jumpsWhen_of_jumpIf (fun _ _ => rfl) (zeros .c), jumpsWhen_of_jumpIf (fun _ _ => rfl) (zeros .ov),
    jumpsWhen_of_jumpIf (fun _ _ => rfl) (ones .c), jumpsWhen_of_jumpIf (fun _ _ => rfl) (ones .op),
    fun _ => ⟨rfl, rfl, rfl, rfl, rfl, rfl, rfl, rfl, rfl, rfl, rfl, rfl⟩⟩

end Sys2Proof.Machine
end

section
/-! PROOFS. B and BL (with JMP, O46), RTWP (O21) and BLWP (O22), on what the two context switches do. -/

namespace Sys2Proof.Machine

variable {s t u : State}

/-! ## B and BL -/

theorem Kept.trans (first : Kept s t) (second : Kept t u) : Kept s u := by
  obtain ⟨cpu, dev⟩ := first
  obtain ⟨cpu', dev'⟩ := second
  exact ⟨cpu.trans cpu', dev'.trans dev⟩

theorem readOperand16_kept (o : Operand) (s : State) (q : s.during = []) : Kept s (readOperand16 o s).state :=
  ⟨readOperand16_keptCpu o s q, readOperand16_unwatched o s q⟩

theorem writeReg_kept (r : Reg) (v : Word) (s : State) (q : s.during = []) : Kept s (writeReg r v s) := by
  obtain ⟨-, -, -, kept⟩ := writeWord_frame (regAddr s r) v s q
  exact kept

theorem setPc_kept (v : Word) (s : State) : Kept s (s.setPc v) := ⟨⟨rfl, rfl, rfl, rfl, rfl, rfl⟩, rfl⟩

/-- Settles O46: JMP is `jumpIf` on a test that always holds; B and BL read the operand, BL stores into R11, and `pc`
is written last. -/
theorem branchResults : Obligations.branch_results := by
  refine ⟨jumpsWhen_of_jumpIf (test := fun _ => true) (fun _ _ => rfl) (fun _ => iff_true_intro rfl), ?_⟩
  intro src s q a
  have quiet : a.state.during = [] := readOperand16_quiet src s q
  have read : Kept s a.state := readOperand16_kept src s q
  have linkAddr : regAddr a.state 11 = s.wp + 22 := by
    rw [regAddr, readOperand16_wp]
    rfl
  have linked : WordStored a.state (writeReg 11 a.state.pc a.state) (s.wp + 22) a.state.pc := by
    rw [← linkAddr]
    exact writeWord_stored _ _ a.state quiet
  exact ⟨⟨_, rfl, rfl, memKept_of_mem rfl rfl, by simp, by simp, read.trans (setPc_kept a.addr _)⟩,
    ⟨_, rfl, rfl, wordStored_of_mem linked rfl rfl, by simp, by simp,
      (read.trans (writeReg_kept 11 _ a.state quiet)).trans (setPc_kept a.addr _)⟩⟩

/-! ## RTWP -/

/-- Reads before it leave what a read of a register gives. -/
theorem OnlyDevices.readReg_value (h : OnlyDevices s t) (q : s.during = []) {r : Reg}
    (holds : s.holdsWord (regAddr s r) = true) : (Machine.readReg r t).1 = s.peekReg r := by
  obtain ⟨cfg, -⟩ := h.cpu
  have address : regAddr t r = regAddr s r := by rw [regAddr, h.wp, regAddr]
  rw [Machine.readReg, address, readWord_value _ t (h.quiet q) ((holdsWord_of_cfg cfg _).trans holds),
    peekWord_of_mem cfg h.mem, State.peekReg]

theorem returnSwitch_unwatched (s : State) (q : s.during = []) :
    (returnSwitch s).dev.unwatched = s.dev.unwatched := by
  simp [returnSwitch, readReg, readWord_unwatched, q]

theorem returnSwitch_kept (s : State) (q : s.during = []) : Kept s (returnSwitch s) :=
  ⟨⟨by simp, by simp, by simp, by simp, by simp, by simp [q]⟩, returnSwitch_unwatched s q⟩

theorem stImpl_eq_ite (p : Part) : stImpl p = if p = .tms9940 then 0xFD03 else 0xFE0F := by cases p <;> rfl

/-- Settles O21: the three registers are read in turn, and a read changes neither `wp` nor memory. -/
theorem rtwpResult : Obligations.rtwp_result := by
  intro s q
  have first : OnlyDevices s (readReg 15 s).2 := .readReg 15 q
  have second := first.trans (.readReg 14 (first.quiet q))
  refine ⟨_, rfl, fun h15 => ?_, fun h14 => ?_, fun h13 => ?_, memKept_of_mem (by simp) (by simp [q]),
    returnSwitch_kept s q⟩
  · have r15 : (readReg 15 s).1 = s.peekReg 15 := readWord_value _ s q h15
    rw [← stImpl_eq_ite, ← r15]
    rfl
  · rw [← first.readReg_value q h14]
    rfl
  · rw [← second.readReg_value q h13]
    rfl

/-! ## BLWP -/

/-- The three stores of a forward context switch into the workspace at `w`: `st`, `pc` and `wp` into its R15, R14 and
R13 (R300). -/
def saveContext (w : Word) (s : State) : State :=
  writeWord (slotAddr w 13) s.wp (writeWord (slotAddr w 14) s.pc (writeWord (slotAddr w 15) s.st s))

theorem contextSwitch_eq_saveContext (v : Word) (s : State) :
    contextSwitch v none s =
      let nw := readWord v s
      let np := readWord (v + 2) (saveContext (even nw.1) nw.2)
      (np.2.setWp (even nw.1)).setPc np.1 := by
  simp [contextSwitch, saveContext]

/-- `t` is `s` after the stores of a context switch into the workspace at `w`, one after another. -/
def ContextStored (w : Word) (s t : State) : Prop :=
  ∃ m1 m2 : State, m1.cfg = s.cfg ∧ m2.cfg = s.cfg ∧ WordStored s m1 (w + 30) s.st ∧
    WordStored m1 m2 (w + 28) s.pc ∧ WordStored m2 t (w + 26) s.wp

theorem ContextStored.of_mem {w : Word} (h : ContextStored w s t) (cfg : u.cfg = t.cfg) (mem : u.mem = t.mem) :
    ContextStored w s u := by
  obtain ⟨m1, m2, cfg1, cfg2, st, pc, wp⟩ := h
  exact ⟨m1, m2, cfg1, cfg2, st, pc, wordStored_of_mem wp cfg mem⟩

/-- Reads before the stores change nothing that the stores depend on. -/
theorem OnlyDevices.then_contextStored {w : Word} (h : OnlyDevices s t) (stored : ContextStored w t u) :
    ContextStored w s u := by
  obtain ⟨m1, m2, cfg1, cfg2, st, pc, wp⟩ := stored
  obtain ⟨cfg, -⟩ := h.cpu
  rw [h.st] at st
  rw [h.pc] at pc
  rw [h.wp] at wp
  exact ⟨m1, m2, cfg1.trans cfg, cfg2.trans cfg, h.then_wordStored st, pc, wp⟩

theorem saveContext_stored (w : Word) (s : State) (q : s.during = []) : ContextStored w s (saveContext w s) := by
  have quiet1 : (writeWord (slotAddr w 15) s.st s).during = [] := by simp [q]
  have quiet2 : (writeWord (slotAddr w 14) s.pc (writeWord (slotAddr w 15) s.st s)).during = [] := by simp [q]
  exact ⟨_, _, by simp, by simp, writeWord_stored (slotAddr w 15) _ s q,
    writeWord_stored (slotAddr w 14) _ _ quiet1, writeWord_stored (slotAddr w 13) _ _ quiet2⟩

theorem saveContext_frame (w : Word) (s : State) (q : s.during = []) : Frame [] s (saveContext w s) := by
  have first := writeWord_frame (slotAddr w 15) s.st s q
  have second := first.trans (writeWord_frame (slotAddr w 14) s.pc _ (first.quiet q))
  exact second.trans (writeWord_frame (slotAddr w 13) s.wp _ (second.quiet q))

theorem readWord_onlyDevices (a : Word) (s : State) (q : s.during = []) : OnlyDevices s (readWord a s).2 where
  cpu := ⟨by simp, by simp, by simp, by simp, by simp, by simp [q]⟩
  mem := readWord_mem a s q
  pc := readWord_pc a s
  wp := readWord_wp a s
  st := readWord_st a s

theorem contextSwitch_kept (v : Word) (link : Option Word) (s : State) (q : s.during = []) :
    Kept s (contextSwitch v link s) :=
  ⟨⟨by simp, by simp, by simp, by simp, by simp, by simp [q]⟩, contextSwitch_unwatched v link s q⟩

/-- The forward context switch (R300): the new `wp` is read before the stores, the new `pc` after them. -/
theorem contextSwitch_spec (v : Word) (s : State) (q : s.during = []) :
    let t := contextSwitch v none s
    (s.holdsWord v = true → t.wp = even (s.peekWord v)) ∧ ContextStored t.wp s t ∧
      (s.holdsWord (v + 2) = true → t.pc = even (t.peekWord (v + 2))) := by
  intro t
  let nw := readWord v s
  let saved := saveContext (even nw.1) nw.2
  have switched : t = ((readWord (v + 2) saved).2.setWp (even nw.1)).setPc (readWord (v + 2) saved).1 :=
    contextSwitch_eq_saveContext v s
  have vector : OnlyDevices s nw.2 := readWord_onlyDevices v s q
  have frame : Frame [] nw.2 saved := saveContext_frame _ nw.2 (vector.quiet q)
  have quiet : saved.during = [] := frame.quiet (vector.quiet q)
  have savedCfg : saved.cfg = s.cfg := frame.cfg.trans (readWord_cfg v s)
  have cfg : t.cfg = saved.cfg := (contextSwitch_cfg v none s).trans savedCfg.symm
  have mem : t.mem = saved.mem := by rw [switched, State.setPc_mem, State.setWp_mem, readWord_mem _ saved quiet]
  have wp : t.wp = even nw.1 := by rw [switched, State.setPc_wp, State.setWp_wp, even_even]
  refine ⟨fun holds => ?_, ?_, fun holds => ?_⟩
  · rw [wp, readWord_value v s q holds]
  · rw [wp]
    exact vector.then_contextStored ((saveContext_stored _ nw.2 (vector.quiet q)).of_mem cfg mem)
  · rw [peekWord_of_mem cfg mem, ← readWord_value _ saved quiet ((holdsWord_of_cfg savedCfg _).trans holds), switched,
      State.setPc_pc]

/-- Settles O22: the context switch through the address the operand gives, and then the shield. -/
theorem blwpResult : Obligations.blwp_result := by
  intro src s q e
  have quiet : e.2.during = [] := effAddr_quiet src .word s q
  have address : e.2.cfg = s.cfg := effAddr_cfg src .word s
  obtain ⟨wp, ⟨m1, m2, cfg1, cfg2, r15, r14, r13⟩, pc⟩ := contextSwitch_spec e.1 e.2 quiet
  rw [effAddr_st] at r15
  rw [effAddr_wp] at r13
  exact ⟨_, rfl, wp, ⟨m1, m2, cfg1.trans address, cfg2.trans address, r15, r14, wordStored_of_mem r13 rfl rfl⟩,
    fun holds => pc ((holdsWord_of_cfg address _).trans holds), by simp, rfl, by simp, by simp, by simp,
    by simp, (contextSwitch_unwatched e.1 none e.2 quiet).trans (effAddr_unwatched src .word s q)⟩

end Sys2Proof.Machine
end

section
/-! PROOFS. The forward context switch (O19), and its return (O20): the three stores are to three words, so that each
reads back what was stored in it. -/

namespace Sys2Proof.Machine

variable {s t : State}

/-! ## A stored word, read back -/

/-- A word that is kept holds what was stored in it. -/
theorem WordStored.peekWord_same {a v : Word} (h : WordStored s t a v) (keeps : s.keepsWord a = true) :
    t.peekWord a = v := by
  simp only [State.keepsWord, Bool.and_eq_true] at keeps
  obtain ⟨high, low, -⟩ := h
  rw [State.peekWord, high keeps.1, low keeps.2, word_of_halves]

/-- Addresses of one place agree in the 14 bits that every part puts on its bus (R61). -/
theorem samePlace_toNat_mod {a b : Word} (h : samePlace s a b) : a.toNat % 0x4000 = b.toNat % 0x4000 := by
  unfold samePlace busAddr at h
  split at h
  · exact h
  · rw [h]

/-- A store to one word leaves the others, where the bus tells them apart. -/
theorem WordStored.peekWord_other {a b v : Word} (h : WordStored s t a v)
    (apart : a.toNat / 2 % 0x2000 ≠ b.toNat / 2 % 0x2000) : t.peekWord b = s.peekWord b := by
  obtain ⟨-, -, other⟩ := h
  have byte (x : Word) (half : x.toNat / 2 = b.toNat / 2) : t.peekByte x = s.peekByte x := by
    refine other x (fun _ same => apart ?_) (fun _ same => apart ?_)
    · have place := samePlace_toNat_mod same
      rw [even_toNat] at place
      omega
    · have place := samePlace_toNat_mod same
      rw [even_succ_toNat, even_toNat] at place
      omega
  rw [State.peekWord, byte (even b) (by rw [even_toNat]; omega),
    byte (even b + 1) (by rw [even_succ_toNat, even_toNat]; omega), State.peekWord]

/-- Two registers of one workspace, at `a` and `b` bytes above its start, are two words. -/
theorem registers_apart (w a b : Word) (gap : a.toNat + 2 ≤ b.toNat) (within : b.toNat < 32) :
    (w + a).toNat / 2 % 0x2000 ≠ (w + b).toNat / 2 % 0x2000 := by
  simp only [BitVec.toNat_add]
  omega

/-! ## The context switch and its return -/

/-- Settles O19: the parts of `contextSwitch_spec`, and what the switch leaves. -/
theorem forwardContextSwitch : Obligations.context_switch := by
  intro v s q t
  obtain ⟨wp, stored, pc⟩ := contextSwitch_spec v s q
  exact ⟨wp, stored, pc, contextSwitch_st v none s, contextSwitch_kept v none s q⟩

theorem keepsWord_of_cfg (h : t.cfg = s.cfg) (a : Word) : t.keepsWord a = s.keepsWord a := by
  simp only [State.keepsWord, State.keeps, h]

/-- After the stores of a context switch R15, R14 and R13 of the workspace hold the old `st`, `pc` and `wp`, where they
are read/write memory: no store falls on the word of another. -/
theorem ContextStored.peekWord {w : Word} (h : ContextStored w s t) (keep13 : s.keepsWord (w + 26) = true)
    (keep14 : s.keepsWord (w + 28) = true) (keep15 : s.keepsWord (w + 30) = true) :
    t.peekWord (w + 30) = s.st ∧ t.peekWord (w + 28) = s.pc ∧ t.peekWord (w + 26) = s.wp := by
  obtain ⟨m1, m2, cfg1, cfg2, r15, r14, r13⟩ := h
  rw [← keepsWord_of_cfg cfg2] at keep13
  rw [← keepsWord_of_cfg cfg1] at keep14
  refine ⟨?_, ?_, r13.peekWord_same keep13⟩
  · rw [r13.peekWord_other (registers_apart w 26 30 (by decide) (by decide)),
      r14.peekWord_other (registers_apart w 28 30 (by decide) (by decide)), r15.peekWord_same keep15]
  · rw [r13.peekWord_other (registers_apart w 26 28 (by decide) (by decide)), r14.peekWord_same keep14]

/-- A word with no bit outside a mask is what the mask leaves of it. -/
theorem and_eq_self_of_masked {v m : Word} (h : v &&& ~~~m = 0) : v &&& m = v := by
  apply BitVec.eq_of_getLsbD_eq
  intro k _
  have kept := (masked_iff v m).mp h k
  cases bit : v.getLsbD k with
  | false => simp [bit]
  | true => simp [bit, kept bit]

/-- Settles O20: RTWP reads the three words the switch stored, and the bits it drops are 0 already. -/
theorem switchAndReturn : Obligations.switch_and_return := by
  intro v s inv q t keep13 keep14 keep15
  obtain ⟨sound, -⟩ := (State.inv_iff s).mp inv
  have switched : Kept s t := contextSwitch_kept v none s q
  have cfg : t.cfg = s.cfg := contextSwitch_cfg v none s
  obtain ⟨-, stored, -⟩ := contextSwitch_spec v s q
  obtain ⟨saved15, saved14, saved13⟩ := stored.peekWord ((keepsWord_of_cfg cfg _).symm.trans keep13)
    ((keepsWord_of_cfg cfg _).symm.trans keep14) ((keepsWord_of_cfg cfg _).symm.trans keep15)
  obtain ⟨u, ran, st, pc, wp, mem, kept⟩ := rtwpResult t (contextSwitch_quiet v none s q)
  refine ⟨u, ran, ?_, ?_, ?_, mem, switched.trans kept⟩
  · rw [wp (holdsWord_of_keepsWord keep13), ← even_of_bit0 s.wp sound.wpEven, ← saved13]
    rfl
  · rw [pc (holdsWord_of_keepsWord keep14), ← even_of_bit0 s.pc sound.pcEven, ← saved14]
    rfl
  · rw [st (holdsWord_of_keepsWord keep15), ← stImpl_eq_ite, cfg]
    refine Eq.trans ?_ (and_eq_self_of_masked sound.stBits)
    rw [← saved15]
    rfl

end Sys2Proof.Machine
end

section
/-! PROOFS. The boundary between instructions (R310, R331, R340): when a step changes nothing (O28), when it fetches
whatever is requested (O27), and the instruction it then runs (O9), since each instruction has a next state (O15). -/

namespace Sys2Proof.Machine

variable {s t : State}

/-! ## A step with no input to come -/

theorem sample_of_no_env (h : s.env = []) : sample s = s := by
  unfold sample
  split
  next => rfl
  next env => simp [h] at env

theorem step_of_no_env (h : s.env = []) : step s = settle (cycle s) := by rw [step, sample_of_no_env h]

/-- `settle` lets a state pass in which no pin in output mode was driven. -/
theorem settle_next (h : t.dev.misdriven = none) : settle (.next t) = .next t := by simp only [settle, h]

/-! ## The cases of `Step()` (R310) -/

theorem cycle_resetHeld (h : resetHeld s.cfg.part s.dev.pins = true) : cycle s = .next s := if_pos h

theorem cycle_resetDue (released : resetHeld s.cfg.part s.dev.pins = false) (due : s.dev.resetDue = true)
    (bus : s.busGranted = false) : cycle s = .next (doReset s) := by
  simp [cycle, released, due, bus]

/-- A RESET that is due waits for the bus (log entry 19). -/
theorem cycle_held (released : resetHeld s.cfg.part s.dev.pins = false)
    (waits : s.dev.resetDue = true → s.busGranted = true) (held : s.held = true) : cycle s = holdStep s := by
  have noReset : ¬ (s.dev.resetDue && !s.busGranted) = true := by
    rw [Bool.and_eq_true, Bool.not_eq_true']
    rintro ⟨due, free⟩
    exact Bool.noConfusion (free.symm.trans (waits due))
  simp [cycle, released, noReset, held]

theorem cycle_boundary (released : resetHeld s.cfg.part s.dev.pins = false) (due : s.dev.resetDue = false)
    (held : s.held = false) (xword : s.xword = none) : cycle s = instructionStep s := by
  simp [cycle, released, due, held, xword]

/-! ## The requests at an instruction boundary -/

theorem acceptedIrq_eq_some {n : Nat} (request : irq s.cfg.part s.dev = some n) (admitted : n ≤ s.maskLevel) :
    acceptedIrq s = some n := by
  simp [acceptedIrq, request, admitted]

/-- Nothing is accepted where the mask admits nothing that is requested (R312). -/
theorem acceptedIrq_eq_none (masked : ∀ n, irq s.cfg.part s.dev = some n → s.maskLevel < n) : acceptedIrq s = none := by
  unfold acceptedIrq
  split
  next n request => exact if_neg (Nat.not_le.mpr (masked n request))
  next => rfl

theorem instructionStep_load (unshielded : s.inhibit = false) (load : loadReq s.cfg.part s.dev.pins = true) :
    instructionStep s = .next (doLoad s) := by
  simp [instructionStep, unshielded, load]

theorem instructionStep_irq {n : Nat} (unshielded : s.inhibit = false) (noLoad : loadReq s.cfg.part s.dev.pins = false)
    (accepted : acceptedIrq s = some n) : instructionStep s = .next (doInterrupt n s) := by
  simp [instructionStep, unshielded, noLoad, accepted]

/-- Shielded, or with nothing to take, the CPU goes on. -/
theorem instructionStep_fetches
    (h : s.inhibit = true ∨ loadReq s.cfg.part s.dev.pins = false ∧ acceptedIrq s = none) :
    instructionStep s = fetchExecute (s.setInhibit false) := by
  obtain shielded | ⟨noLoad, noIrq⟩ := h
  · simp [instructionStep, shielded]
  · simp [instructionStep, noLoad, noIrq]

theorem fetchExecute_halted (h : s.halted = true) : fetchExecute s = .next s := if_pos h

theorem fetchExecute_running (h : s.halted = false) : fetchExecute s = execute (fetch s).1 (fetch s).2 := by
  simp [fetchExecute, h]

/-! ## A Hold (R331, R378) -/

theorem holdStep_off_chip (h : s.cfg.part ≠ .tms9940) : holdStep s = .next s := by
  unfold holdStep
  split
  next onChip => exact absurd onChip h
  next => rfl

theorem holdStep_idle (h : s.halted = false ∨ s.inhibit = true ∨ acceptedIrq s = none) : holdStep s = .next s := by
  have nothing : (if s.halted && !s.inhibit then acceptedIrq s else none) = none := by
    obtain running | shielded | noIrq := h
    · simp [running]
    · simp [shielded]
    · simp [noIrq]
  unfold holdStep
  rw [nothing]
  split <;> rfl

theorem holdStep_irq {n : Nat} (part : s.cfg.part = .tms9940) (halted : s.halted = true)
    (unshielded : s.inhibit = false) (accepted : acceptedIrq s = some n) : holdStep s = .next (doInterrupt n s) := by
  simp [holdStep, part, halted, unshielded, accepted]

/-- Off the chip the bus is granted in every Hold. -/
theorem busGranted_off_chip (h : s.cfg.part ≠ .tms9940) : s.busGranted = s.held := by
  unfold State.busGranted
  split
  next onChip => exact absurd onChip h
  next => rfl

/-- Settles O28: RESET is tested first, then the Hold, then the requests. -/
theorem nothingHappens : Obligations.nothing_happens := by
  intro s env driven
  rw [step_of_no_env env]
  have unchanged : settle (.next s) = .next s := settle_next driven
  refine ⟨fun low => ?resetLow, fun released held part => ?heldOffChip,
    fun released held _ due quiet => ?heldOnChip, fun released due held xword halted quiet => ?halted⟩
  case resetLow => rw [cycle_resetHeld low, unchanged]
  case heldOffChip =>
    rw [cycle_held released (fun _ => (busGranted_off_chip part).trans held) held, holdStep_off_chip part, unchanged]
  case heldOnChip =>
    rw [cycle_held released (fun isDue => absurd isDue (by simp [due])) held,
      holdStep_idle (quiet.imp_right (Or.imp_right acceptedIrq_eq_none)), unchanged]
  case halted =>
    have goesOn := instructionStep_fetches (quiet.imp_right (And.imp_right acceptedIrq_eq_none))
    have still : (s.setInhibit false).halted = true := halted
    rw [cycle_boundary released due held xword, goesOn, fetchExecute_halted still]
    exact settle_next driven

/-- Settles O27: the shielded step is a fetch and what it executes. -/
theorem inhibitShieldsOneInstruction : Obligations.inhibit_shields_one_instruction := by
  intro s env released due held xword shielded running
  have still : (s.setInhibit false).halted = false := running
  rw [step_of_no_env env, cycle_boundary released due held xword, instructionStep_fetches (.inl shielded),
    fetchExecute_running still]
  exact ⟨rfl, fetch_inhibit _⟩

/-! ## Each instruction has a next state -/

/-- Settles O15: each meaning is a next state; DIV, LDCR and STCR choose between two. -/
theorem everyInstructionCompletes : Obligations.every_instruction_completes := by
  intro i s
  cases i with
  | div w src =>
    by_cases overflow : (readOperand16 src s).value.toNat ≤ (readReg w (readOperand16 src s).state).1.toNat
    · exact ⟨_, exec_div_overflow w src s overflow⟩
    · exact ⟨_, exec_div_fits w src s overflow⟩
  | ldcr cnt src =>
    rcases Nat.lt_or_ge 8 (cruCount cnt) with large | small
    · exact ⟨_, exec_ldcr_word src s large⟩
    · exact ⟨_, exec_ldcr_byte src s small⟩
  | stcr cnt dst =>
    rcases Nat.lt_or_ge 8 (cruCount cnt) with large | small
    · exact ⟨_, exec_stcr_word dst s large⟩
    · exact ⟨_, exec_stcr_byte dst s small⟩
  | _ => exact ⟨_, rfl⟩

/-! ## What an instruction leaves in the place of X's word -/

theorem jumpIf_xword (c : Bool) (disp : BitVec 8) (s : State) : (jumpIf c disp s).xword = s.xword := by
  rw [jumpIf_only_pc]

theorem shiftRight_xword (f : Word → Nat → Word) (cnt : BitVec 4) (w : Reg) (s : State) :
    (shiftRight f cnt w s).xword = s.xword := by
  simp [shiftRight]

theorem execXop_xword (n : BitVec 4) (src : Operand) (s : State) :
    NextMeets (fun t => t.xword = s.xword) (execXop n src s) := by
  unfold execXop
  simp only [NextMeets]
  split <;> simp

/-- Only X leaves a word to be executed next (R270). -/
theorem exec_xword (i : Instr) (s : State) (notX : ∀ o, i ≠ .x o) :
    NextMeets (fun t => t.xword = s.xword) (exec i s) := by
  cases i with
  | x o => exact absurd rfl (notX o)
  | li _ | ai _ | andi _ | ori _ | ci _ | lwpi | limi =>
    simp [NextMeets, exec, execLi, execAi, execAndi, execOri, execCi, execLwpi, execLimi]
  | stwp _ | stst _ | liim _ _ => simp [NextMeets, exec, execStwp, execStst, execLiim]
  | idle | rset | ckon | ckof | lrex => simp [NextMeets, exec, execIdle, execRset, execCkon, execCkof, execLrex]
  | rtwp => exact returnSwitch_xword s
  | blwp _ => simp [NextMeets, exec, execBlwp]
  | xop n src => exact execXop_xword n src s
  | b _ | bl _ => simp [NextMeets, exec, execB, execBl]
  | clr _ | seto _ | swpb _ | inv _ => simp [NextMeets, exec, execClr, execSeto, execSwpb, execInv]
  | neg _ | inc _ | inct _ | dec _ | dect _ =>
    simp [NextMeets, exec, execNeg, execInc, execInct, execDec, execDect]
  | abs dst =>
    by_cases negative : (readOperand16 dst s).value.msb = true
    · rw [exec_abs_negative dst s negative]; simp [NextMeets, absFlags]
    · rw [exec_abs_nonnegative dst s negative]; simp [NextMeets, absFlags]
  | sra _ _ | srl _ _ | src _ _ => exact shiftRight_xword _ _ _ s
  | sla _ _ => simp [NextMeets, exec, execSla]
  | jmp _ | jlt _ | jle _ | jeq _ | jhe _ | jgt _ | jne _ | jnc _ | joc _ | jno _ | jl _ | jh _ | jop _ =>
    exact jumpIf_xword _ _ s
  | sbo _ | sbz _ | tb _ => simp [NextMeets, exec, execSbo, execSbz, execTb]
  | coc _ _ | czc _ _ | xor _ _ => simp [NextMeets, exec, execCoc, execCzc, execXor]
  | ldcr cnt src =>
    rcases Nat.lt_or_ge 8 (cruCount cnt) with large | small
    · rw [exec_ldcr_word src s large]; simp [NextMeets]
    · rw [exec_ldcr_byte src s small]; simp [NextMeets]
  | stcr cnt dst =>
    rcases Nat.lt_or_ge 8 (cruCount cnt) with large | small
    · rw [exec_stcr_word dst s large]; simp [NextMeets]
    · rw [exec_stcr_byte dst s small]; simp [NextMeets]
  | mpy _ _ => simp [NextMeets, exec, execMpy]
  | div w src =>
    by_cases overflow : (readOperand16 src s).value.toNat ≤ (readReg w (readOperand16 src s).state).1.toNat
    · rw [exec_div_overflow w src s overflow]; simp [NextMeets]
    · rw [exec_div_fits w src s overflow]; simp [NextMeets, divStore]
  | a _ _ | ab _ _ | s _ _ | sb _ _ => simp [NextMeets, exec, execA, execAb, execS, execSb]
  | c _ _ | cb _ _ => simp [NextMeets, exec, execC, execCb]
  | mov _ _ | movb _ _ | soc _ _ | socb _ _ | szc _ _ | szcb _ _ =>
    simp [NextMeets, exec, execMov, execMovb, execSoc, execSocb, execSzc, execSzcb]
  | dca _ | dcs _ => simp [NextMeets, exec, execDca, execDcs]

/-! ## The chain of X (R270) -/

theorem drain_none (n : Nat) (h : s.xword = none) : drain n s = .next s := by
  cases n with
  | zero => rfl
  | succ n => simp [drain, h]

theorem runWord_of_decode {w : Word} {i : Instr} (h : decode s.cfg.part w = .ok i) : runWord w s = exec i s := by
  simp [runWord, h]

/-- One word of a chain: where its instruction has a next state, the chain goes on from there. -/
theorem drain_succ {n : Nat} {w : Word} {i : Instr} (pending : s.xword = some w) (decoded : decode s.cfg.part w = .ok i)
    (ran : exec i (s.setXword none) = .next t) : drain (n + 1) s = drain n t := by
  have word : runWord w (s.setXword none) = .next t := (runWord_of_decode (by simpa using decoded)).trans ran
  simp [drain, pending, word]

/-- An instruction other than X ends its chain. -/
theorem drain_succ_last {n : Nat} {w : Word} {i : Instr} (pending : s.xword = some w)
    (decoded : decode s.cfg.part w = .ok i) (notX : ∀ o, i ≠ .x o) :
    drain (n + 1) s = exec i (s.setXword none) := by
  obtain ⟨t, ran⟩ := everyInstructionCompletes i (s.setXword none)
  have ended : t.xword = none := (exec_xword i _ notX).of_eq ran
  rw [drain_succ pending decoded ran, drain_none n ended, ran]

/-- The word to be executed is taken out of a state that held none before it. -/
theorem setXword_setXword_none (w : Option Word) (h : s.xword = none) : (s.setXword w).setXword none = s := by
  cases s
  cases h
  rfl

theorem execute_of_decode {w : Word} {i : Instr} (xword : s.xword = none) (decoded : decode s.cfg.part w = .ok i)
    (notX : ∀ o, i ≠ .x o) : execute w s = exec i s := by
  have last : execute w s = exec i ((s.setXword (some w)).setXword none) := drain_succ_last rfl decoded notX
  rw [last, setXword_setXword_none _ xword]

/-- X, and then the instruction it reads, with `pc` as it stands after X (D16). -/
theorem execute_x {w : Word} {o : Operand} {j : Instr} (xword : s.xword = none)
    (decoded : decode s.cfg.part w = .ok (.x o)) (read : decode s.cfg.part (readOperand16 o s).value = .ok j)
    (notX : ∀ o', j ≠ .x o') : execute w s = exec j (readOperand16 o s).state := by
  have first : execute w s = drain 15 ((readOperand16 o s).state.setXword (some (readOperand16 o s).value)) :=
    drain_succ (i := .x o) rfl decoded (by rw [setXword_setXword_none _ xword]; rfl)
  have operand : (readOperand16 o s).state.xword = none := (readOperand16_xword o s).trans xword
  rw [first, drain_succ_last rfl (by simpa using read) notX, setXword_setXword_none _ operand]

/-! ## The step -/

theorem step_of_ready (h : s.ready) :
    step s = settle (execute (fetch (s.setInhibit false)).1 (fetch (s.setInhibit false)).2) := by
  obtain ⟨env, -, -, released, due, held, xword, running, quiet⟩ := h
  have still : (s.setInhibit false).halted = false := running
  rw [step_of_no_env env, cycle_boundary released due held xword, instructionStep_fetches quiet,
    fetchExecute_running still]

/-- The two bytes of a word decode as the word (R62). -/
theorem decode_of_decodeBytes {p : Part} {hi lo : Byte} {i : Instr} (h : decodeBytes p [hi, lo] = .ok (i, [])) :
    decode p (hi ++ lo) = .ok i := by
  simp only [decodeBytes] at h
  split at h
  next decoded => cases h; exact decoded
  next => cases h

/-- Settles O9: the fetched word is the one at `pc`, and its chain is one instruction long, two for an X. -/
theorem stepRunsDecoded : Obligations.step_runs_decoded := by
  intro i s ready pcEven holds decoded u
  rw [step_of_ready ready]
  obtain ⟨-, quiet, -, -, -, -, noXword, -⟩ := ready
  have word : (fetch (s.setInhibit false)).1 = s.peekByte s.pc ++ s.peekByte (s.pc + 1) := by
    have read : (fetch (s.setInhibit false)).1 = s.peekWord s.pc :=
      readWord_value s.pc (s.setInhibit false) quiet holds
    rw [read, State.peekWord, even_of_bit0 s.pc pcEven]
  have part : u.cfg.part = s.cfg.part := by simp [u]
  have fetched : decode u.cfg.part (fetch (s.setInhibit false)).1 = .ok i := by
    rw [part, word]
    exact decode_of_decodeBytes decoded
  have xword : u.xword = none := by simp [u, noXword]
  refine ⟨fun notX => ?_, fun o j isX read notX => ?_, fun t => settle_next⟩
  · rw [execute_of_decode xword fetched notX]
  · subst isX
    rw [execute_x xword fetched (part ▸ read) notX]

end Sys2Proof.Machine
end

section
/-! PROOFS. What an exception does (R313, R320, R325): an external interrupt (O24), LOAD (O25) and RESET (O26). Each is
the forward context switch through its vector, with a new mask and the shield. -/

namespace Sys2Proof.Machine

variable {s t : State}

/-! ## The interrupt mask in bits of `st` (R33) -/

/-- How many bits of `st` are the mask. -/
def maskWidth (p : Part) : Nat := if p = .tms9940 then 2 else 4

theorem maskWidth_le (p : Part) : maskWidth p ≤ 4 := by cases p <;> decide

theorem maskLevel_eq (s : State) : s.maskLevel = s.st.toNat % 2 ^ maskWidth s.cfg.part := by
  unfold State.maskLevel maskWidth
  split
  next onChip => rw [if_pos onChip]; rfl
  next offChip => rw [if_neg offChip]; rfl

/-- A new mask is its own bits, and no other bit of `st` changes. -/
theorem setMask_getLsbD (v : BitVec 4) (s : State) (k : Nat) :
    (s.setMask v).st.getLsbD k = if k < maskWidth s.cfg.part then v.getLsbD k else s.st.getLsbD k := by
  unfold State.setMask maskWidth
  rcases Nat.lt_or_ge k 16 with inside | outside
  · split
    next onChip =>
      rw [if_pos onChip]
      interval_cases k <;> simp
    next offChip =>
      rw [if_neg offChip]
      interval_cases k <;> simp
  · have apart : ¬ k < if s.cfg.part = .tms9940 then 2 else 4 := by split <;> omega
    rw [if_neg apart, BitVec.getLsbD_of_ge _ _ outside, BitVec.getLsbD_of_ge _ _ outside]

theorem setMask_high (v : BitVec 4) (s : State) {k : Nat} (high : 4 ≤ k) :
    (s.setMask v).st.getLsbD k = s.st.getLsbD k := by
  rw [setMask_getLsbD, if_neg]
  have := maskWidth_le s.cfg.part
  omega

theorem setMask_maskLevel (v : BitVec 4) (s : State) :
    (s.setMask v).maskLevel = v.toNat % 2 ^ maskWidth s.cfg.part := by
  have low : (s.setMask v).st.setWidth (maskWidth s.cfg.part) = v.setWidth (maskWidth s.cfg.part) := by
    apply BitVec.eq_of_getLsbD_eq
    intro k hk
    simp [hk, setMask_getLsbD]
  rw [maskLevel_eq, State.setMask_cfg]
  simpa using congrArg BitVec.toNat low

/-! ## LOAD and the external interrupts -/

/-- The exception through the vector at `v`, which leaves the mask at `m` (R313, R325). -/
def takeThrough (v : Word) (m : BitVec 4) (s : State) : State :=
  ((contextSwitch v none (s.setHalted false)).setMask m).setInhibit true

theorem doLoad_eq (s : State) : doLoad s = takeThrough 0xFFFC 0 s := rfl

theorem doInterrupt_eq (n : Nat) (s : State) :
    doInterrupt n s = takeThrough (BitVec.ofNat 16 (4 * n)) (BitVec.ofNat 4 (n - 1)) s := rfl

/-- What LOAD and an interrupt do alike: the context switch, the mask, the end of the Halt state, the shield. -/
theorem takeThrough_spec {v v2 : Word} {m : BitVec 4} {level : Nat} (second : v + 2 = v2)
    (mask : m.toNat % 2 ^ maskWidth s.cfg.part = level) (q : s.during = []) :
    let t := takeThrough v m s
    (s.holdsWord v = true → t.wp = even (s.peekWord v)) ∧ ContextStored t.wp s t ∧
      (s.holdsWord v2 = true → t.pc = even (t.peekWord v2)) ∧ t.maskLevel = level ∧
      (∀ k, 4 ≤ k → t.st.getLsbD k = s.st.getLsbD k) ∧ t.halted = false ∧ t.inhibit = true ∧ t.cfg = s.cfg ∧
      t.dev.unwatched = s.dev.unwatched := by
  subst second mask
  intro t
  let u := contextSwitch v none (s.setHalted false)
  obtain ⟨wp, stored, pc⟩ := contextSwitch_spec v (s.setHalted false) q
  have wpKept : t.wp = u.wp := by simp [t, u, takeThrough]
  have pcKept : t.pc = u.pc := by simp [t, u, takeThrough]
  have cfgKept : t.cfg = u.cfg := by simp [t, u, takeThrough]
  have memKept : t.mem = u.mem := by simp [t, u, takeThrough]
  have devKept : t.dev = u.dev := by simp [t, u, takeThrough]
  have cfg : u.cfg = s.cfg := contextSwitch_cfg v none _
  refine ⟨fun holds => wpKept.trans (wp holds), ?_, fun holds => ?_, ?_, fun k high => ?_, ?_, rfl,
    cfgKept.trans cfg, ?_⟩
  · rw [wpKept]
    exact stored.of_mem cfgKept memKept
  · rw [pcKept, peekWord_of_mem cfgKept memKept]
    exact pc holds
  · rw [← cfg]
    exact setMask_maskLevel m u
  · have st : u.st = s.st := contextSwitch_st v none _
    rw [← st]
    exact setMask_high m u high
  · simp [t, takeThrough]
  · rw [devKept]
    exact contextSwitch_unwatched v none _ q

/-- Watching the bus changes none of these (R395). -/
theorem of_unwatched (h : t.dev.unwatched = s.dev.unwatched) :
    t.dev.misdriven = s.dev.misdriven ∧ t.dev.resetDue = s.dev.resetDue ∧ t.dev.chip = s.dev.chip :=
  ⟨(congrArg Devices.misdriven h :), (congrArg Devices.resetDue h :), (congrArg Devices.chip h :)⟩

/-- Nothing an exception does drives a pin. -/
theorem settle_takeThrough (v : Word) (m : BitVec 4) (q : s.during = []) (driven : s.dev.misdriven = none) :
    settle (.next (takeThrough v m s)) = .next (takeThrough v m s) := by
  obtain ⟨-, -, -, -, -, -, -, -, dev⟩ := takeThrough_spec (v := v) (m := m) rfl rfl q
  obtain ⟨misdriven, -, -⟩ := of_unwatched dev
  exact settle_next (misdriven.trans driven)

/-- A level the mask admits fits the mask, and so does the level less one. -/
theorem level_pred_fits {n : Nat} (h : n ≤ s.maskLevel) :
    (BitVec.ofNat 4 (n - 1)).toNat % 2 ^ maskWidth s.cfg.part = n - 1 := by
  have width := maskWidth_le s.cfg.part
  have bound : n < 2 ^ maskWidth s.cfg.part := by
    rw [maskLevel_eq] at h
    exact h.trans_lt (Nat.mod_lt _ (Nat.two_pow_pos _))
  have four : 2 ^ maskWidth s.cfg.part ≤ 2 ^ 4 := Nat.pow_le_pow_right (by decide) width
  rw [BitVec.toNat_ofNat, Nat.mod_eq_of_lt (by omega), Nat.mod_eq_of_lt (by omega)]

/-- Settles O24: at a boundary, and in a Hold of a halted TMS 9940, the accepted level is taken. -/
theorem interruptTaken : Obligations.interrupt_taken := by
  intro n s env q driven released due hold xword unshielded noLoad request admitted
  have accepted : acceptedIrq s = some n := acceptedIrq_eq_some request admitted
  have taken : cycle s = .next (doInterrupt n s) := by
    by_cases held : s.held = true
    case pos =>
      obtain ⟨part, halted⟩ := hold held
      rw [cycle_held released (fun isDue => absurd isDue (by simp [due])) held,
        holdStep_irq part halted unshielded accepted]
    case neg =>
      rw [cycle_boundary released due (Bool.eq_false_iff.mpr held) xword,
        instructionStep_irq unshielded noLoad accepted]
  refine ⟨_, ?_, takeThrough_spec rfl (level_pred_fits admitted) q⟩
  rw [step_of_no_env env, taken, doInterrupt_eq, settle_takeThrough _ _ q driven]

/-- Settles O25: LOAD is tested before any level. -/
theorem loadTaken : Obligations.load_taken := by
  intro s env q driven released due held xword unshielded load
  have hasLoad : s.cfg.part ≠ .tms9940 := by
    intro part
    simp [part, loadReq] at load
  refine ⟨_, ?_, hasLoad, takeThrough_spec (m := 0) rfl (Nat.zero_mod _) q⟩
  rw [step_of_no_env env, cycle_boundary released due held xword, instructionStep_load unshielded load, doLoad_eq,
    settle_takeThrough _ _ q driven]

/-! ## RESET -/

/-- RESET begins with the Halt state, a chain of X and its own request ended, and on the TMS 9940 with `Reset9940Cru()`
and `pc`, `wp` and `st` 0 (R320, R372). -/
def resetStart (s : State) : State := resetChip (((s.setHalted false).setXword none).setResetDue false)

/-- RESET ends with the flags, the mask and the shield (R320). -/
def resetEnd (s : State) : State := ((resetFlags s).setMask 0).setInhibit true

theorem doReset_eq (s : State) : doReset s = resetEnd (contextSwitch 0 none (resetStart s)) := rfl

theorem resetStart_off_chip (h : s.cfg.part ≠ .tms9940) :
    resetStart s = ((s.setHalted false).setXword none).setResetDue false := by
  unfold resetStart resetChip
  split
  next onChip => exact absurd onChip h
  next => rfl

theorem resetStart_on_chip (h : s.cfg.part = .tms9940) :
    resetStart s =
      (((((((s.setHalted false).setXword none).setResetDue false).setChip (OnChip.unspecified 0 0 s.free)).useFree
        OnChip.unspecifiedFree).setPc 0).setWp 0).setSt 0 := by
  unfold resetStart resetChip
  split
  next => rfl
  next offChip => exact absurd h offChip

/-- What the beginning of RESET leaves, and what it ends. -/
theorem resetStart_kept (s : State) :
    (resetStart s).cfg = s.cfg ∧ (resetStart s).mem = s.mem ∧ (resetStart s).during = s.during ∧
      (resetStart s).halted = false ∧ (resetStart s).xword = none ∧ (resetStart s).dev.resetDue = false ∧
      (resetStart s).dev.misdriven = s.dev.misdriven := by
  by_cases part : s.cfg.part = .tms9940
  · rw [resetStart_on_chip part]
    simp
  · rw [resetStart_off_chip part]
    simp

/-- The words RESET saves: 0 on the TMS 9940. -/
theorem resetStart_saved (s : State) :
    (resetStart s).st = (if s.cfg.part == .tms9940 then 0 else s.st) ∧
      (resetStart s).pc = (if s.cfg.part == .tms9940 then 0 else s.pc) ∧
      (resetStart s).wp = (if s.cfg.part == .tms9940 then 0 else s.wp) := by
  by_cases part : s.cfg.part = .tms9940
  · rw [resetStart_on_chip part, if_pos (by simp [part]), if_pos (by simp [part]), if_pos (by simp [part])]
    exact ⟨rfl, rfl, rfl⟩
  · rw [resetStart_off_chip part, if_neg (by simpa using part), if_neg (by simpa using part),
      if_neg (by simpa using part)]
    exact ⟨rfl, rfl, rfl⟩

theorem resetFlags_eq (s : State) :
    resetFlags s = s.setSt (if s.cfg.keepResetFlags then s.st else s.st &&& 0x000F) := by
  unfold resetFlags
  split <;> rfl

/-- The end of RESET writes `st` and the shield only. -/
theorem resetEnd_kept (s : State) :
    (resetEnd s).cfg = s.cfg ∧ (resetEnd s).pc = s.pc ∧ (resetEnd s).wp = s.wp ∧ (resetEnd s).mem = s.mem ∧
      (resetEnd s).dev = s.dev ∧ (resetEnd s).halted = s.halted ∧ (resetEnd s).xword = s.xword := by
  simp [resetEnd, resetFlags_eq]

theorem resetEnd_maskLevel (s : State) : (resetEnd s).maskLevel = 0 :=
  (setMask_maskLevel 0 (resetFlags s)).trans (Nat.zero_mod _)

/-- The flags are cleared, or kept, as RESET_ST_FLAGS says (D7). -/
theorem resetEnd_flags (s : State) {k : Nat} (high : 4 ≤ k) :
    (resetEnd s).st.getLsbD k = (s.cfg.keepResetFlags && s.st.getLsbD k) := by
  have bit : (resetEnd s).st.getLsbD k = (resetFlags s).st.getLsbD k := setMask_high 0 _ high
  rw [bit, resetFlags_eq, State.setSt_st]
  cases s.cfg.keepResetFlags with
  | true => simp
  | false =>
    have cleared : (0x000F : Word).getLsbD k = false := by
      rcases Nat.lt_or_ge k 16 with inside | outside
      · interval_cases k <;> rfl
      · exact BitVec.getLsbD_of_ge _ _ outside
    simp only [Bool.false_eq_true, if_false, BitVec.getLsbD_and, cleared, Bool.and_false, Bool.false_and]

/-- Settles O26: RESET comes before every other test; its context switch starts from what RESET has cleared. -/
theorem resetTaken : Obligations.reset_taken := by
  intro s env quiet driven released due bus z
  obtain ⟨cfg0, mem0, during0, halted0, xword0, due0, driven0⟩ := resetStart_kept s
  obtain ⟨st0, pc0, wp0⟩ := resetStart_saved s
  have quiet0 : (resetStart s).during = [] := during0.trans quiet
  let u := contextSwitch 0 none (resetStart s)
  obtain ⟨wp, stored, pc⟩ := contextSwitch_spec 0 (resetStart s) quiet0
  obtain ⟨driven1, due1, chip1⟩ := of_unwatched (contextSwitch_unwatched 0 none _ quiet0)
  have cfg1 : u.cfg = s.cfg := (contextSwitch_cfg 0 none _).trans cfg0
  have st1 : u.st = (resetStart s).st := contextSwitch_st 0 none _
  obtain ⟨cfg2, pc2, wp2, mem2, dev2, halted2, xword2⟩ := resetEnd_kept u
  have settled : step s = .next (resetEnd u) := by
    rw [step_of_no_env env, cycle_resetDue released due bus, doReset_eq]
    refine settle_next ?_
    rw [dev2, driven1, driven0, driven]
  refine ⟨resetEnd u, settled, fun holds => ?_, ?_, fun holds => ?_, resetEnd_maskLevel u, fun clears k high => ?_,
    fun keeps offChip k high => ?_, ?_, rfl, ?_, ?_, cfg2.trans cfg1, fun onChip => ?_⟩
  · rw [wp2, wp ((holdsWord_of_cfg cfg0 0).trans holds), peekWord_of_mem cfg0 mem0]
  · obtain ⟨m1, m2, cfgA, cfgB, r15, r14, r13⟩ := stored.of_mem cfg2 mem2
    rw [st0] at r15
    rw [pc0] at r14
    rw [wp0] at r13
    rw [wp2]
    exact ⟨m1, m2, cfgA.trans cfg0, cfgB.trans cfg0, wordStored_pre r15 cfg0 mem0, r14, r13⟩
  · rw [pc2, peekWord_of_mem cfg2 mem2]
    exact pc ((holdsWord_of_cfg cfg0 _).trans holds)
  · rw [resetEnd_flags u high, cfg1, clears, Bool.false_and]
  · rw [resetEnd_flags u high, cfg1, keeps, Bool.true_and, st1, st0]
    exact congrArg (BitVec.getLsbD · k) (if_neg (by simpa [z] using offChip))
  · rw [halted2, contextSwitch_halted, halted0]
  · rw [xword2, contextSwitch_xword, xword0]
  · rw [dev2]
    exact due1.trans due0
  · rw [dev2, chip1, resetStart_on_chip (by simpa [z] using onChip)]
    exact ⟨rfl, rfl⟩

end Sys2Proof.Machine
end

section
/-! PROOFS. The additions of the TMS 9940: the decimal adjusts (O36), DCA and DCS (O37), LIIM (O49). -/

namespace Sys2Proof.Machine

variable {s t : State}

/-! ## The decimal adjusts -/

theorem dcaDefault_toNat (b : Byte) (c ac : Bool) :
    (dcaDefault b c ac).1.toNat = (b.toNat + ((if ac = true ∨ 9 < b.toNat % 16 then 6 else 0) +
      (if c = true ∨ 0x99 < b.toNat then 0x60 else 0))) % 256 := by
  simp only [dcaDefault, Bool.or_eq_true, decide_eq_true_eq, BitVec.toNat_add]
  split <;> split <;> simp

theorem dcaDefault_carry (b : Byte) (c ac : Bool) :
    (dcaDefault b c ac).2 = decide (c = true ∨ 0x99 < b.toNat) := by
  simp [dcaDefault]

theorem dcsDefault_toNat (b : Byte) (c ac : Bool) :
    (dcsDefault b c ac).1.toNat =
      (b.toNat + 256 - ((if ac = true then 0 else 6) + (if c = true then 0 else 0x60))) % 256 := by
  have small := b.isLt
  cases c <;> cases ac <;> simp [dcsDefault, BitVec.toNat_sub] <;> omega

/-- A byte of two decimal digits. -/
def IsDecimal (n : Nat) : Prop := n % 16 ≤ 9 ∧ n / 16 ≤ 9

def decimalValue (n : Nat) : Nat := n / 16 * 10 + n % 16

theorem decimalValue_digits {x y : Nat} (hy : y ≤ 9) : decimalValue (16 * x + y) = 10 * x + y := by
  unfold decimalValue
  omega

theorem isDecimal_digits {x y : Nat} (hx : x ≤ 9) (hy : y ≤ 9) : IsDecimal (16 * x + y) := by
  unfold IsDecimal
  omega

theorem IsDecimal.digits {n : Nat} (h : IsDecimal n) : ∃ x y, x ≤ 9 ∧ y ≤ 9 ∧ n = 16 * x + y := by
  obtain ⟨low, high⟩ := h
  exact ⟨n / 16, n % 16, high, low, (Nat.div_add_mod n 16).symm⟩

theorem decimal_of_digits {r x y v : Nat} (digits : r = 16 * x + y) (hx : x ≤ 9) (hy : y ≤ 9)
    (value : 10 * x + y = v) : IsDecimal r ∧ decimalValue r = v := by
  rw [digits, decimalValue_digits hy]
  exact ⟨isDecimal_digits hx hy, value⟩

/-- A digit sum is 10 or more when it carried out of its four bits or its four bits exceed 9; each correction by 6
carries it on. -/
theorem decimal_sum {p q r : Nat} (hp : IsDecimal p) (hq : IsDecimal q)
    (adjusted : r = ((p + q) % 256 + ((if 16 ≤ p % 16 + q % 16 ∨ 9 < (p + q) % 256 % 16 then 6 else 0) +
      (if 256 ≤ p + q ∨ 0x99 < (p + q) % 256 then 0x60 else 0))) % 256) :
    (IsDecimal r ∧ decimalValue r = (decimalValue p + decimalValue q) % 100) ∧
      (256 ≤ p + q ∨ 0x99 < (p + q) % 256 ↔ 100 ≤ decimalValue p + decimalValue q) := by
  obtain ⟨a, b, ha, hb, rfl⟩ := hp.digits
  obtain ⟨c, d, hc, hd, rfl⟩ := hq.digits
  rw [decimalValue_digits hb, decimalValue_digits hd]
  have low : (16 ≤ (16 * a + b) % 16 + (16 * c + d) % 16 ∨ 9 < (16 * a + b + (16 * c + d)) % 256 % 16) ↔
      10 ≤ b + d := by omega
  have high : (256 ≤ 16 * a + b + (16 * c + d) ∨ 0x99 < (16 * a + b + (16 * c + d)) % 256) ↔
      100 ≤ 10 * a + b + (10 * c + d) := by omega
  simp only [low, high] at adjusted
  refine ⟨?_, high⟩
  clear low high hp hq
  split at adjusted <;> split at adjusted
  · exact decimal_of_digits (x := a + c - 9) (y := b + d - 10) (by omega) (by omega) (by omega) (by omega)
  · exact decimal_of_digits (x := a + c + 1) (y := b + d - 10) (by omega) (by omega) (by omega) (by omega)
  · exact decimal_of_digits (x := a + c - 10) (y := b + d) (by omega) (by omega) (by omega) (by omega)
  · exact decimal_of_digits (x := a + c) (y := b + d) (by omega) (by omega) (by omega) (by omega)

/-- A digit that borrowed is 6 too great. -/
theorem decimal_difference {p q r : Nat} (hp : IsDecimal p) (hq : IsDecimal q)
    (adjusted : r = ((q + 256 - p) % 256 + 256 - ((if p % 16 ≤ q % 16 then 0 else 6) +
      (if p ≤ q then 0 else 0x60))) % 256) :
    (IsDecimal r ∧ decimalValue r = (decimalValue q + 100 - decimalValue p) % 100) ∧
      (p ≤ q ↔ decimalValue p ≤ decimalValue q) := by
  obtain ⟨a, b, ha, hb, rfl⟩ := hp.digits
  obtain ⟨c, d, hc, hd, rfl⟩ := hq.digits
  rw [decimalValue_digits hb, decimalValue_digits hd]
  have low : (16 * a + b) % 16 ≤ (16 * c + d) % 16 ↔ b ≤ d := by omega
  have high : 16 * a + b ≤ 16 * c + d ↔ 10 * a + b ≤ 10 * c + d := by omega
  simp only [low, high] at adjusted
  refine ⟨?_, high⟩
  clear low high hp hq
  split at adjusted <;> split at adjusted
  · exact decimal_of_digits (x := c - a) (y := d - b) (by omega) (by omega) (by omega) (by omega)
  · exact decimal_of_digits (x := 10 + c - a) (y := d - b) (by omega) (by omega) (by omega) (by omega)
  · exact decimal_of_digits (x := c - a - 1) (y := 10 + d - b) (by omega) (by omega) (by omega) (by omega)
  · exact decimal_of_digits (x := 9 + c - a) (y := 10 + d - b) (by omega) (by omega) (by omega) (by omega)
/-- Settles O36: `ArithFlags` says which digits carried or did not borrow, and the rest is arithmetic of digits. -/
theorem decimalAdjust : Obligations.decimal_adjust := by
  intro p q pLow pHigh qLow qHigh value sum diff
  have added := addGives_add p q (by decide)
  have subtracted := addGives_sub q p (by decide)
  have sumByte := dcaDefault_toNat (addResult p q false) (addCarry p q false) (halfCarry p q false)
  have sumCarry := dcaDefault_carry (addResult p q false) (addCarry p q false) (halfCarry p q false)
  have diffByte := dcsDefault_toNat (addResult q (~~~p) true) (addCarry q (~~~p) true) (halfCarry q (~~~p) true)
  have diffCarry : diff.2 = decide (p.toNat ≤ q.toNat) :=
    Bool.eq_iff_iff.mpr (subtracted.c.trans decide_eq_true_iff.symm)
  have sumNat : (addResult p q false).toNat = (p.toNat + q.toNat) % 256 := by
    rw [added.result, BitVec.toNat_add]
  have diffNat : (addResult q (~~~p) true).toNat = (q.toNat + 256 - p.toNat) % 256 := by
    rw [subtracted.result, BitVec.toNat_sub]
    omega
  simp only [added.c, added.ac, sumNat, Nat.reducePow, Nat.reduceSub] at sumByte sumCarry
  simp only [subtracted.c, subtracted.ac, diffNat, Nat.reducePow, Nat.reduceSub] at diffByte
  obtain ⟨⟨⟨sumLow, sumHigh⟩, sumValue⟩, sumOver⟩ := decimal_sum ⟨pLow, pHigh⟩ ⟨qLow, qHigh⟩ sumByte
  obtain ⟨⟨⟨diffLow, diffHigh⟩, diffValue⟩, diffOver⟩ := decimal_difference ⟨pLow, pHigh⟩ ⟨qLow, qHigh⟩ diffByte
  exact ⟨⟨sumLow, sumHigh, sumValue, sumCarry.trans (decide_eq_decide.mpr sumOver)⟩,
    ⟨diffLow, diffHigh, diffValue, diffCarry.trans (decide_eq_decide.mpr diffOver)⟩⟩

/-! ## DCA and DCS -/

/-- A first value that is for the operand, C and AC is taken. -/
theorem bcdFn_first (row : BcdRow) (rest : List BcdRow) (default : Byte × Bool) {b : Byte} {c ac : Bool}
    (hb : row.byte = b) (hc : row.c = c) (hac : row.ac = ac) :
    bcdFn (row :: rest) default b c ac = (row.result, row.carry) := by
  simp [bcdFn, hb, hc, hac]

section
variable {p : Platform} {row : BcdRow} {rest : List BcdRow} (b : Byte) (c ac : Bool)

/-- Where no value of the parameter is given, it is the default (D21). -/
theorem dcaFn_default (h : p.dcaRows = []) : dcaFn p b c ac = dcaDefault b c ac := by
  rw [dcaFn, h]
  rfl

theorem dcsFn_default (h : p.dcsRows = []) : dcsFn p b c ac = dcsDefault b c ac := by
  rw [dcsFn, h]
  rfl

variable {b c ac} (hb : row.byte = b) (hc : row.c = c) (hac : row.ac = ac)
include hb hc hac

theorem dcaFn_first (h : p.dcaRows = row :: rest) : dcaFn p b c ac = (row.result, row.carry) := by
  rw [dcaFn, h, bcdFn_first row rest _ hb hc hac]

theorem dcsFn_first (h : p.dcsRows = row :: rest) : dcsFn p b c ac = (row.result, row.carry) := by
  rw [dcsFn, h, bcdFn_first row rest _ hb hc hac]

end

/-- How DCA and DCS end: the byte is stored, C is the carry, and L>, A>, EQ and OP are the byte's (R280, R281). -/
def bcdStore (d : Fetched 8) (r : Byte × Bool) : State :=
  setParity r.1 (setLAE r.1 ((writeOperand8 d r.1 d.state).setFlag .c r.2))

theorem exec_dca (dst : Operand) (s : State) :
    exec (.dca dst) s = .next
      (let d := readOperand8 dst s
       bcdStore d (dcaFn s.cfg d.value (s.flag .c) (s.flag .ac))) := by
  have flags (f : Flag) : (readOperand8 dst s).state.flag f = s.flag f := flag_of_st f (readOperand8_st dst s)
  simp only [exec, execDca, flags, bcdStore]

theorem exec_dcs (dst : Operand) (s : State) :
    exec (.dcs dst) s = .next
      (let d := readOperand8 dst s
       bcdStore d (dcsFn s.cfg d.value (s.flag .c) (s.flag .ac))) := by
  have flags (f : Flag) : (readOperand8 dst s).state.flag f = s.flag f := flag_of_st f (readOperand8_st dst s)
  simp only [exec, execDcs, flags, bcdStore]

theorem bcdStore_spec (o : Operand) (r : Byte × Bool) (s : State) (q : s.during = []) :
    let d := readOperand8 o s
    let t := bcdStore d r
    ByteStored d.state t d.addr r.1 ∧ LaeOf t r.1 ∧ ParityOf t r.1 ∧ t.flag .c = r.2 ∧
      Frame [.l, .a, .eq, .c, .op] d.state t := by
  intro d t
  have quiet : d.state.during = [] := readOperand8_quiet o s q
  have stored : ByteStored d.state (writeOperand8 d r.1 d.state) d.addr r.1 :=
    writeOperand8_stored o r.1 s d.state q quiet (readOperand8_cfg o s) rfl
  have carried : ByteStored d.state ((writeOperand8 d r.1 d.state).setFlag .c r.2) d.addr r.1 :=
    byteStored_of_mem stored rfl rfl
  have written : Frame [.c] d.state ((writeOperand8 d r.1 d.state).setFlag .c r.2) :=
    (writeOperand8_frame d r.1 d.state quiet).trans (setFlag_frame .c r.2 _)
  have result := setParity_setLAE_frame r.1 ((writeOperand8 d r.1 d.state).setFlag .c r.2)
  exact ⟨carried.setParity_setLAE r.1, setParity_laeOf r.1 (setLAE_laeOf _ r.1), setParity_parityOf _ r.1,
    (result.flag_eq (by decide)).trans (flag_setFlag _ .c .c r.2), (written.trans result).weaken (by decide)⟩

/-- Settles O37: both end in `bcdStore`, of what their parameter gives. -/
theorem dcaAndDcs : Obligations.dca_and_dcs := by
  intro dst s q d up down
  let sum := dcaFn s.cfg d.value (s.flag .c) (s.flag .ac)
  let difference := dcsFn s.cfg d.value (s.flag .c) (s.flag .ac)
  refine ⟨⟨sum.1, sum.2, _, exec_dca dst s, rfl, fun absent => ?_, fun row rest rows hb hc hac => ?_,
    bcdStore_spec dst sum s q⟩, ⟨difference.1, difference.2, _, exec_dcs dst s, rfl, fun absent => ?_,
    fun row rest rows hb hc hac => ?_, bcdStore_spec dst difference s q⟩⟩
  · rw [show sum = _ from dcaFn_default _ _ _ absent]
    exact ⟨dcaDefault_toNat _ _ _, dcaDefault_carry _ _ _⟩
  · rw [show sum = _ from dcaFn_first hb hc hac rows]
    exact ⟨rfl, rfl⟩
  · rw [show difference = _ from dcsFn_default _ _ _ absent]
    exact ⟨dcsDefault_toNat _ _ _, rfl⟩
  · rw [show difference = _ from dcsFn_first hb hc hac rows]
    exact ⟨rfl, rfl⟩

/-! ## LIIM -/

/-- A new mask is only in `st`. -/
theorem setMask_only_st (v : BitVec 4) (s : State) : s.setMask v = { s with st := (s.setMask v).st } := by
  unfold State.setMask
  split <;> rfl

/-- The two rows of LIIM's words are one, whatever its don't-care bits are (R131, R282). -/
theorem decode_liim : ∀ (x : BitVec 5) (n : BitVec 2), decode .tms9940 (0b001011001#9 ++ x ++ n) = .ok (.liim x n) := by
  decide

/-- Settles O49: on the TMS 9940 the mask is bits 1 and 0 of `st`. -/
theorem liimResult : Obligations.liim_result := by
  intro x n s part
  have width : maskWidth s.cfg.part = 2 := by rw [part]; rfl
  have level : (s.setMask (n.setWidth 4)).maskLevel = n.toNat := by
    have small : n.toNat < 4 := n.isLt
    rw [setMask_maskLevel, width, BitVec.toNat_setWidth]
    omega
  refine ⟨decode_liim x n, _, rfl, setMask_only_st _ s, ?_, level, fun k high => ?_⟩
  · apply BitVec.eq_of_getLsbD_eq
    intro k hk
    simp [setMask_getLsbD, width, hk]
    omega
  · rw [setMask_getLsbD, width, if_neg (by omega)]

end Sys2Proof.Machine
end

section
/-! PROOFS. The devices on the chip of the TMS 9940: the general purpose flags (O56), the pins (O57), the decrementer
(O58). -/

namespace Sys2Proof.Machine

variable {s : State}

/-! ## A CRU cycle of the TMS 9940 (R373) -/

/-- A read of the chip gives the value its address has, where it has one. -/
theorem cruIn_on_chip {a : Nat} {level : Bool} (part : s.cfg.part = .tms9940) (inside : 0x100 ≤ a)
    (value : s.busCycle.dev.chip.readBit s.busCycle.dev.pins a = some level) : (cruIn a s).1 = level := by
  simp [cruIn, part, chipIn, Nat.not_lt.mpr inside, value]

/-- A write of the chip, but at the serial buffer and at a pin in a special function. -/
theorem cruOut_on_chip {a : Nat} (b : Bool) (part : s.cfg.part = .tms9940) (q : s.during = []) (inside : 0x1B0 ≤ a)
    (plain : ¬ (0x1E0 ≤ a ∧ a ≤ 0x1FF ∧ s.dev.chip.special (a - 0x1E0) = true)) :
    cruOut a b s = s.setChip (s.dev.chip.writeBit a b) := by
  have onChip : ¬ a < 0x100 := by omega
  have notSerial : ¬ (0x1A0 ≤ a ∧ a ≤ 0x1AF ∧ s.dev.chip.cbit 1 = true) := by omega
  simp only [cruOut, part, s.busCycle_quiet q, chipOut, if_neg onChip, if_neg plain, if_neg notSerial]

namespace OnChip

variable (c : OnChip) (pins : Pins) {k : Nat} (b : Bool)

/-! ## The addresses of the devices (R373) -/

theorem readBit_flag (h : k < 16) : c.readBit pins (0x1B0 + k) = some (c.flags.getLsbD k) := by
  unfold readBit
  rw [if_neg (by omega), if_neg (by omega), if_neg (by omega), if_neg (by omega), if_neg (by omega),
    if_pos (by omega), Nat.add_sub_cancel_left]

theorem readBit_dec (h : k < 14) : c.readBit pins (0x190 + k) = some (c.dec.getLsbD k) := by
  unfold readBit
  rw [if_neg (by omega), if_neg (by omega), if_neg (by omega), if_pos (by omega), Nat.add_sub_cancel_left]

theorem readBit_pin (h : k < 32) (plain : c.special k = false) :
    c.readBit pins (0x1E0 + k) = some (c.pinLevel pins.p k) := by
  unfold readBit
  rw [if_neg (by omega), if_neg (by omega), if_neg (by omega), if_neg (by omega), if_neg (by omega),
    if_neg (by omega), if_pos (by omega), Nat.add_sub_cancel_left, plain]
  rfl

theorem writeBit_flag (h : k < 16) : c.writeBit (0x1B0 + k) b = { c with flags := withBit c.flags k b } := by
  unfold writeBit
  rw [if_neg (by omega), if_neg (by omega), if_neg (by omega), if_neg (by omega), if_neg (by omega),
    if_pos (by omega), Nat.add_sub_cancel_left]

theorem writeBit_dir (h : k < 32) : c.writeBit (0x1C0 + k) b = { c with dir := withBit c.dir k b } := by
  unfold writeBit
  rw [if_neg (by omega), if_neg (by omega), if_neg (by omega), if_neg (by omega), if_neg (by omega),
    if_neg (by omega), if_pos (by omega), Nat.add_sub_cancel_left]

theorem writeBit_out (h : k < 32) : c.writeBit (0x1E0 + k) b = { c with out := withBit c.out k b } := by
  unfold writeBit
  rw [if_neg (by omega), if_neg (by omega), if_neg (by omega), if_neg (by omega), if_neg (by omega),
    if_neg (by omega), if_neg (by omega), if_pos (by omega), Nat.add_sub_cancel_left]

end OnChip

/-! ## The general purpose flags -/

theorem cruIn_flag {k : Nat} (h : k < 16) (part : s.cfg.part = .tms9940) (q : s.during = []) :
    (cruIn (0x1B0 + k) s).1 = s.dev.chip.flags.getLsbD k :=
  cruIn_on_chip part (by omega) (by rw [s.busCycle_quiet q, OnChip.readBit_flag _ _ h])

theorem cruOut_flag {k : Nat} (b : Bool) (h : k < 16) (part : s.cfg.part = .tms9940) (q : s.during = []) :
    cruOut (0x1B0 + k) b s = s.setChip { s.dev.chip with flags := withBit s.dev.chip.flags k b } := by
  rw [cruOut_on_chip b part q (by omega) (by omega), OnChip.writeBit_flag _ _ h]

/-- Settles O56: a write replaces one bit of the flags, and a read gives one. -/
theorem generalPurposeFlags : Obligations.general_purpose_flags := by
  intro k b s hk part q
  have read (j : Nat) (hj : j < 16) : (cruIn (0x1B0 + j) (cruOut (0x1B0 + k) b s)).1 =
      if j = k then b else s.dev.chip.flags.getLsbD j := by
    rw [cruOut_flag b hk part q, cruIn_flag hj (by simpa using part) (by simpa using q)]
    exact withBit_getLsbD _ k j b hk
  refine ⟨(read k hk).trans (if_pos rfl), fun j hj other => ?_⟩
  rw [read j hj, if_neg other, cruIn_flag hj part q]

/-! ## The pins -/

/-- The chip with latch `k` at `b` and direction bit `k` at `d`. -/
def OnChip.setPin (c : OnChip) (k : Nat) (b d : Bool) : OnChip :=
  { c with out := withBit c.out k b, dir := withBit c.dir k d }

/-- A write to the latch of a pin in no special function, and then to its direction bit. -/
theorem cruOut_latch_direction {k : Nat} (b d : Bool) (h : k < 32) (part : s.cfg.part = .tms9940) (q : s.during = [])
    (plain : s.dev.chip.special k = false) :
    cruOut (0x1C0 + k) d (cruOut (0x1E0 + k) b s) = s.setChip (s.dev.chip.setPin k b d) := by
  have latch : cruOut (0x1E0 + k) b s = s.setChip { s.dev.chip with out := withBit s.dev.chip.out k b } := by
    rw [cruOut_on_chip b part q (by omega) (by simp [plain]), OnChip.writeBit_out _ _ h]
  rw [latch, cruOut_on_chip d (by simpa using part) (by simpa using q) (by omega) (by omega),
    OnChip.writeBit_dir _ _ h]
  rfl

/-- A pin in no special function reads its latch where its direction bit is 1, else what is driven. -/
theorem cruIn_pin {k : Nat} (h : k < 32) (part : s.cfg.part = .tms9940) (q : s.during = [])
    (plain : s.dev.chip.special k = false) (notCounting : k = 17 → s.dev.chip.counting = false) :
    (cruIn (0x1E0 + k) s).1 =
      if s.dev.chip.dir.getLsbD k then s.dev.chip.out.getLsbD k else s.dev.pins.p.getLsbD k := by
  have noInput : (k == 17 && s.dev.chip.counting) = false := by
    rw [Bool.and_eq_false_imp, beq_iff_eq]
    exact notCounting
  have level : s.dev.chip.pinLevel s.dev.pins.p k =
      if s.dev.chip.dir.getLsbD k then s.dev.chip.out.getLsbD k else s.dev.pins.p.getLsbD k := by
    rw [OnChip.pinLevel, noInput, Bool.not_false, Bool.and_true]
  rw [← level]
  exact cruIn_on_chip part (by omega) (by rw [s.busCycle_quiet q, OnChip.readBit_pin _ _ h plain])

/-- Settles O57: the two writes leave the configuration and the event counter, so that the pin's level is its latch or
what is driven, as its direction bit says. -/
theorem chipPins : Obligations.chip_pins := by
  intro k b s hk part q plain notCounting
  have read (d : Bool) : (cruIn (0x1E0 + k) (cruOut (0x1C0 + k) d (cruOut (0x1E0 + k) b s))).1 =
      if d then b else s.dev.pins.p.getLsbD k := by
    rw [cruOut_latch_direction b d hk part q plain,
      cruIn_pin (s := s.setChip (s.dev.chip.setPin k b d)) hk part q plain notCounting]
    simp only [State.setChip_dev, OnChip.setPin, withBit_getLsbD _ _ _ _ hk, if_true]
  exact ⟨read true, read false⟩

/-! ## The decrementer -/

namespace OnChip

variable {c : OnChip}

/-- A counter at 1 reaches 0. -/
theorem decTick_last (enabled : c.decbuf ≠ 0) (one : c.dec = 1) :
    c.decTick = { c with dec := c.decbuf, decint := true } := by
  have zero : c.dec - 1 = 0 := by rw [one]; rfl
  simp only [decTick, if_neg enabled, if_pos zero]

theorem decTick_counts (enabled : c.decbuf ≠ 0) (more : c.dec ≠ 1) : c.decTick = { c with dec := c.dec - 1 } := by
  have notZero : c.dec - 1 ≠ 0 := by bv_omega
  simp only [decTick, if_neg enabled, if_neg notZero]

/-- From the buffer's value the counter goes down by one a tick, until it is 1. -/
theorem decTick_iterate {n : Nat} (loaded : c.dec = c.decbuf) (h : n < c.decbuf.toNat) :
    Nat.iterate decTick n c = { c with dec := c.decbuf - BitVec.ofNat 14 n } := by
  induction n with
  | zero =>
    have start : c.decbuf - BitVec.ofNat 14 0 = c.dec := by rw [loaded]; exact BitVec.sub_zero _
    rw [start]
    rfl
  | succ n ih =>
    have enabled : c.decbuf ≠ 0 := by bv_omega
    have more : c.decbuf - BitVec.ofNat 14 n ≠ 1 := by bv_omega
    have less : c.decbuf - BitVec.ofNat 14 n - 1 = c.decbuf - BitVec.ofNat 14 (n + 1) := by bv_omega
    rw [Function.iterate_succ_apply', ih (by omega), ← less]
    exact decTick_counts (c := { c with dec := c.decbuf - BitVec.ofNat 14 n }) enabled more

/-- Tick number N finds the counter at 1. -/
theorem decTick_iterate_decbuf (enabled : c.decbuf ≠ 0) (loaded : c.dec = c.decbuf) :
    (Nat.iterate decTick c.decbuf.toNat c).decint = true := by
  obtain ⟨n, next⟩ : ∃ n, c.decbuf.toNat = n + 1 := Nat.exists_eq_succ_of_ne_zero (by bv_omega)
  have one : c.decbuf - BitVec.ofNat 14 n = 1 := by bv_omega
  rw [next, Function.iterate_succ_apply', decTick_iterate loaded (by omega),
    decTick_last (c := { c with dec := c.decbuf - BitVec.ofNat 14 n }) enabled one]

end OnChip

/-- Settles O58: the ticks one by one, and a read, which comes after the batch before its cycle. -/
theorem decrementer : Obligations.decrementer := by
  constructor
  · intro c
    refine ⟨fun disabled => if_pos disabled, OnChip.decTick_last, OnChip.decTick_counts,
      fun n enabled noRequest loaded before => ⟨?_, OnChip.decTick_iterate_decbuf enabled loaded⟩⟩
    rw [OnChip.decTick_iterate loaded before]
    exact noRequest
  · intro k s batch later hk part during
    refine ⟨cruIn_on_chip part (by omega) ?_, rfl⟩
    have before : s.busCycle = (batch.foldl applyMid s).setDuring later := by
      rw [← applyMids_setDuring]
      simp [State.busCycle, during]
    rw [before, OnChip.readBit_dec _ _ hk]
    rfl

end Sys2Proof.Machine
end

section
/-! PROOFS. The TMS 9901: its clock (O59), its interrupt request and its reset (O60). -/

namespace Sys2Proof.Machine

variable {s : State}

namespace Psi

variable {p : Psi}

/-! ## The clock (R394, R395) -/

theorem tick_counts (more : p.clkctr ≠ 1) :
    p.tick.clkctr = p.clkctr - 1 ∧ p.tick.clkint = p.clkint := by
  have notZero : p.clkctr - 1 ≠ 0 := by bv_omega
  simp only [tick, if_neg notZero]
  split <;> exact ⟨rfl, rfl⟩

/-- A counter at 1 reaches 0. -/
theorem tick_last (one : p.clkctr = 1) :
    p.tick.clkctr = p.clkload ∧ p.tick.clkint = (p.clkint || p.clkload != 0) := by
  have zero : p.clkctr - 1 = 0 := by rw [one]; rfl
  simp only [tick, if_pos zero]
  split <;> exact ⟨rfl, rfl⟩

/-- A tick changes neither the select bit nor S0, so that the read buffer follows outside clock mode only. -/
theorem tick_clkread : p.tick.clkread = if p.clockMode then p.clkread else p.tick.clkctr := by
  by_cases zero : p.clkctr - 1 = 0
  · simp only [tick, if_pos zero, clockMode]
    split <;> rfl
  · simp only [tick, if_neg zero, clockMode]
    split <;> rfl

/-- Leaving clock mode copies the counter to the read buffer. -/
theorem leave_clkread {q : Psi} (inside : p.clockMode = true) (outside : q.clockMode = false) :
    (p.leave q).clkread = q.clkctr := by
  simp [leave, inside, outside]

/-! ## Writes of single bits (R391, R393, R394) -/

theorem writeBit_mask {b : Nat} (v : Bool) (h : b ≠ 0) (small : b < 16) (sel : p.sel = false) :
    p.writeBit b v = { p with mask := withBit p.mask b v, clkint := p.clkint && b != 3 } := by
  simp [writeBit, h, small, sel]

theorem writeBit_load {b : Nat} (v : Bool) (h : b ≠ 0) (small : b < 15) (sel : p.sel = true) :
    p.writeBit b v =
      { p with clkload := withBit p.clkload (b - 1) v, clkctr := withBit p.clkload (b - 1) v } := by
  have notReset : b ≠ 15 := by omega
  have inside : b < 16 := by omega
  simp [writeBit, h, inside, sel, notReset]

/-- A 1 written to bit 15 in clock mode resets nothing. -/
theorem writeBit_no_reset (v : Bool) (sel : p.sel = true) : p.writeBit 15 v = p := by
  simp [writeBit, sel]

end Psi

/-- Settles O59: each clause is a law above. -/
theorem psiClock : Obligations.psi_clock := by
  intro p v
  refine ⟨Psi.tick_counts, fun one => ?_, fun inside => ?_, fun outside => ?_, fun sel => ?_, fun inside => ⟨?_, ?_⟩,
    fun k low high sel => ?_⟩
  · obtain ⟨counter, request⟩ := Psi.tick_last one
    exact ⟨counter, request.trans (by simp [bne, Bool.beq_eq_decide_eq])⟩
  · rw [Psi.tick_clkread, if_pos inside]
  · rw [Psi.tick_clkread, if_neg (Bool.eq_false_iff.mp outside)]
  · rw [Psi.writeBit_mask v (by decide) (by decide) sel]
    exact ⟨Bool.and_false _, (withBit_getLsbD _ 3 3 v (by decide)).trans (if_pos rfl)⟩
  · exact Psi.leave_clkread inside rfl
  · exact Psi.leave_clkread inside (Bool.and_false _)
  · rw [Psi.writeBit_load v (by omega) (by omega) sel]
    exact ⟨(withBit_getLsbD _ _ _ v (by omega)).trans (if_pos rfl), rfl⟩

/-! ## The interrupt request (R392) -/

namespace Psi

theorem active_iff (p : Psi) (k : Nat) :
    p.active k = true ↔ p.mask.getLsbD k = true ∧ (p.pinInt k = false ∨ k = 3 ∧ p.clkint = true) := by
  simp [active, and_comm]

theorem not_active_iff (p : Psi) (k : Nat) :
    p.active k = false ↔ p.mask.getLsbD k = false ∨ p.pinInt k = true ∧ (k ≠ 3 ∨ p.clkint = false) := by
  rw [← Bool.not_eq_true, active_iff]
  simp only [not_and_or, not_or, Bool.not_eq_true, Bool.not_eq_false]

/-- The request is the lowest active level, 1 to 15. -/
theorem irq_eq_some_iff (p : Psi) (n : BitVec 4) :
    p.irq = some n ↔ n ≠ 0 ∧ p.active n.toNat = true ∧ ∀ k, 1 ≤ k → k < n.toNat → p.active k = false := by
  have small := n.isLt
  have positive : n ≠ 0 ↔ 1 ≤ n.toNat := by
    rw [ne_eq, BitVec.toNat_eq]
    exact Nat.one_le_iff_ne_zero.symm
  have found : p.irq = some n ↔ (List.range' 1 15).find? p.active = some n.toNat := by
    rw [irq, Option.map_eq_some_iff]
    constructor
    · rintro ⟨k, first, code⟩
      have member := List.mem_of_find?_eq_some first
      rw [List.mem_range'_1] at member
      have same : k = n.toNat := by
        rw [← code, BitVec.toNat_ofNat, Nat.mod_eq_of_lt (by omega)]
      rw [first, same]
    · exact fun first => ⟨n.toNat, first, BitVec.ofNat_toNat 4 n ▸ BitVec.setWidth_eq n⟩
  rw [found, List.find?_range'_eq_some, List.mem_range'_1, positive]
  simp only [Bool.not_eq_true']
  constructor
  · rintro ⟨active, ⟨low, -⟩, least⟩
    exact ⟨low, active, least⟩
  · rintro ⟨low, active, least⟩
    exact ⟨active, ⟨low, by omega⟩, least⟩

/-- With every mask bit 0 nothing is requested. -/
theorem irq_of_mask_zero {p : Psi} (h : p.mask = 0) : p.irq = none := by
  have inactive (k : Nat) : p.active k = false := (p.not_active_iff k).mpr (.inl (by simp [h]))
  simp [irq, inactive]

/-! ## The reset (R396) -/

/-- What a reset leaves of `p`: masks and modes clear, no request, the pins as external logic drives them. -/
def WasReset (p q : Psi) : Prop :=
  q.mask = 0 ∧ q.om = 0 ∧ q.irq = none ∧ q.slot = p.slot ∧ q.intIn = p.intIn ∧ ∀ k, q.pinP k = p.pIn.getLsbD k

theorem doReset_wasReset {p r : Psi} (slot : r.slot = p.slot) (intIn : r.intIn = p.intIn) (pIn : r.pIn = p.pIn)
    (n : Nat) : p.WasReset (r.doReset n) :=
  ⟨rfl, rfl, irq_of_mask_zero rfl, slot, intIn, fun k => by simp [pinP, doReset, pIn]⟩

/-- A level seen on S0 changes at most S0 and the read buffer. -/
theorem seeS0_eq (p : Psi) (line : Bool) :
    p.seeS0 line = { p with s0 := line, clkread := (p.seeS0 line).clkread } := by
  unfold seeS0 leave
  split <;> rfl

theorem seeS0_wasReset (p : Psi) (line : Bool) (n : Nat) : p.WasReset ((p.seeS0 line).doReset n) := by
  rw [seeS0_eq]
  exact doReset_wasReset rfl rfl rfl n

end Psi

/-! ## A CRU write to one of the TMS 9901s -/

theorem psiTake_getElem? (a : Nat) (b : Bool) (n : Nat) (ps : List Psi) (u : Nat) :
    (psiTake a b n ps)[u]? = ps[u]?.map fun p => p.take a b (n + Psi.resetFree * u) := by
  induction ps generalizing n u with
  | nil => rfl
  | cons p ps ih =>
    cases u with
    | zero => rfl
    | succ u =>
      rw [psiTake, List.getElem?_cons_succ, List.getElem?_cons_succ, ih, Nat.mul_succ, Nat.add_assoc,
        Nat.add_comm Psi.resetFree]

/-- A write to bit 15 of TMS 9901 number `u`, with S0 0 in its cycle, is that device's to take. -/
theorem cruOut_bit15 {u : Nat} {p : Psi} (b : Bool) (q : s.during = []) (part : s.cfg.part ≠ .tms9940)
    (device : s.dev.psi[u]? = some p) :
    ∃ n, (cruOut (32 * p.slot + 15) b s).dev.psi[u]? =
      some (if (p.seeS0 false).isReset 15 b then (p.seeS0 false).doReset n else (p.seeS0 false).writeBit 15 b) := by
  have line : (32 * p.slot + 15).testBit 4 = false := by
    have even : (32 * p.slot + 15) / 2 ^ 4 % 2 = 0 := by omega
    rw [Nat.testBit_eq_decide_div_mod_eq, even]
    rfl
  have bit : (32 * p.slot + 15) % 32 = 15 := by omega
  have slot : (32 * p.slot + 15) / 32 = (p.seeS0 false).slot := by
    rw [Psi.seeS0_slot]
    omega
  refine ⟨s.free + Psi.resetFree * u, ?_⟩
  rw [cruOut_external _ b part q]
  have taken : (busOut (32 * p.slot + 15) b s).dev.psi =
      psiTake (32 * p.slot + 15) b s.free (s.dev.psi.map fun r => r.seeS0 false) := by
    rw [← line]
    rfl
  rw [taken, psiTake_getElem?, List.getElem?_map, device, Option.map_some, Option.map_some, Psi.take, if_pos slot, bit]

/-- Settles O60: the request by levels; a reset clears the masks and the modes, and S0 in the cycle of a write changes
only what the clock reads. -/
theorem psiInterruptAndReset : Obligations.psi_interrupt_and_reset := by
  refine ⟨fun p => ⟨fun n => ?request, fun k low high => if_neg (by omega)⟩, ?reset⟩
  case request =>
    have three : n = 3 ↔ n.toNat = 3 := BitVec.toNat_eq
    simp only [p.irq_eq_some_iff n, Psi.active_iff, Psi.not_active_iff, three, and_assoc]
  case reset =>
    intro u p v s q part device wasReset
    have written (b : Bool) := cruOut_bit15 b q part device
    refine ⟨fun sel => ?byWrite, ?byLine, fun sel => ?one, fun sel => ?maskBit⟩
    case byWrite =>
      obtain ⟨n, after⟩ := written false
      have resets : (p.seeS0 false).isReset 15 false = true := by rw [Psi.seeS0_eq]; simp [Psi.isReset, sel]
      rw [if_pos resets] at after
      exact ⟨_, after, p.seeS0_wasReset false n⟩
    case byLine =>
      refine ⟨p.doReset s.free, ?_, Psi.doReset_wasReset rfl rfl rfl s.free⟩
      simp [applyDev, List.getElem?_modify_eq, device]
    case one =>
      obtain ⟨n, after⟩ := written true
      have keeps : ¬ (p.seeS0 false).isReset 15 true = true := by simp [Psi.isReset]
      have clockMode : (p.seeS0 false).sel = true := by rw [Psi.seeS0_eq]; exact sel
      rw [if_neg keeps, Psi.writeBit_no_reset true clockMode, Psi.seeS0_eq] at after
      exact ⟨_, after, rfl, rfl, rfl, sel, rfl, rfl⟩
    case maskBit =>
      obtain ⟨n, after⟩ := written v
      have outside : (p.seeS0 false).sel = false := by rw [Psi.seeS0_eq]; exact sel
      have keeps : ¬ (p.seeS0 false).isReset 15 v = true := by simp [Psi.isReset, outside]
      rw [if_neg keeps, Psi.writeBit_mask v (by decide) (by decide) outside, Psi.seeS0_eq] at after
      exact ⟨_, after, rfl, rfl, sel, fun k => withBit_getLsbD _ 15 k v (by decide)⟩

end Sys2Proof.Machine
end

section
/-! PROOFS. The fields of an instruction word, in both directions, row by row of the opcode table (O1, O2, O4). -/

namespace Sys2Proof

/-! ## The general operand -/

theorem Operand.decode_code (o : Operand) (h : o.wf = true) : Operand.decode o.code = o := by
  cases o with
  | reg r | ind r | indexed r | autoInc r => revert r; decide
  | direct => rfl

theorem Operand.code_decode (c : BitVec 6) : (Operand.decode c).code = c := by
  revert c; decide

theorem Operand.decode_wf (c : BitVec 6) : (Operand.decode c).wf = true := by
  revert c; decide

/-! ## The fields of a word put together from its parts, format by format (R103) -/

/-- The library's law of a field above the low part, with the parts as arguments: the 16 bits of a word do not say how
it is cut. `low_part` is the same of a whole low part. -/
theorem high_part {n m start len : Nat} (x : BitVec n) (y : BitVec m) (above : m ≤ start) :
    (x ++ y).extractLsb' start len = x.extractLsb' (start - m) len :=
  BitVec.extractLsb'_append_eq_of_le above

theorem low_part {n m : Nat} (x : BitVec n) (y : BitVec m) : (x ++ y).extractLsb' 0 m = y :=
  BitVec.extractLsb'_append_eq_right

theorem middle_part {n m k : Nat} (x : BitVec n) (y : BitVec m) (z : BitVec k) :
    (x ++ y ++ z).extractLsb' k m = y := by
  rw [high_part (x ++ y) z (Nat.le_refl k), Nat.sub_self, low_part]

/-- Format F1: two general operands. -/
theorem double_fields (h : BitVec 4) (d s : BitVec 6) :
    (h ++ d ++ s : Word).extractLsb' 12 4 = h ∧ dstField (h ++ d ++ s) = Operand.decode d ∧
      srcField (h ++ d ++ s) = Operand.decode s := by
  have page : (h ++ d ++ s : Word).extractLsb' 12 4 = (h ++ d).extractLsb' 6 4 := high_part (h ++ d) s (by decide)
  exact ⟨page.trans ((high_part h d (by decide)).trans BitVec.extractLsb'_eq_self),
    congrArg Operand.decode (middle_part h d s), congrArg Operand.decode (low_part (h ++ d) s)⟩

/-- Formats F3 and F4: a register or a count, and a general operand. -/
theorem register_fields (h : BitVec 6) (r : BitVec 4) (s : BitVec 6) :
    (h ++ r ++ s : Word).extractLsb' 12 4 = h.extractLsb' 2 4 ∧
      (h ++ r ++ s : Word).extractLsb' 10 3 = h.extractLsb' 0 3 ∧ regField (h ++ r ++ s) = r ∧
      srcField (h ++ r ++ s) = Operand.decode s :=
  ⟨(high_part (h ++ r) s (by decide)).trans (high_part h r (by decide)),
    (high_part (h ++ r) s (by decide)).trans (high_part h r (by decide)), middle_part h r s,
    congrArg Operand.decode (low_part (h ++ r) s)⟩

/-- Format F2: a displacement. -/
theorem jump_fields (h d : BitVec 8) :
    (h ++ d : Word).extractLsb' 12 4 = h.extractLsb' 4 4 ∧ (h ++ d : Word).extractLsb' 8 4 = h.extractLsb' 0 4 ∧
      (h ++ d : Word).extractLsb' 0 8 = d :=
  ⟨high_part h d (by decide), high_part h d (by decide), low_part h d⟩

/-- Format F5: a count and a register. -/
theorem shift_fields (h : BitVec 8) (n r : BitVec 4) :
    (h ++ n ++ r : Word).extractLsb' 12 4 = h.extractLsb' 4 4 ∧
      (h ++ n ++ r : Word).extractLsb' 8 4 = h.extractLsb' 0 4 ∧ (h ++ n ++ r : Word).extractLsb' 4 4 = n ∧
      (h ++ n ++ r : Word).extractLsb' 0 4 = r :=
  ⟨(high_part (h ++ n) r (by decide)).trans (high_part h n (by decide)),
    (high_part (h ++ n) r (by decide)).trans (high_part h n (by decide)), middle_part h n r, low_part (h ++ n) r⟩

/-- Format F6: one general operand; of DCA and DCS too, whose words are rows of XOP elsewhere. -/
theorem single_fields (h : BitVec 10) (c : BitVec 6) :
    (h ++ c : Word).extractLsb' 12 4 = h.extractLsb' 6 4 ∧ (h ++ c : Word).extractLsb' 8 4 = h.extractLsb' 2 4 ∧
      (h ++ c : Word).extractLsb' 6 6 = h.extractLsb' 0 6 ∧ (h ++ c : Word).extractLsb' 10 3 = h.extractLsb' 4 3 ∧
      regField (h ++ c) = h.extractLsb' 0 4 ∧ srcField (h ++ c) = Operand.decode c :=
  ⟨high_part h c (by decide), high_part h c (by decide), high_part h c (by decide), high_part h c (by decide),
    high_part h c (by decide), congrArg Operand.decode (low_part h c)⟩

/-- Formats F7, F8 and F9: a register, or four bits 0. -/
theorem internal_fields (h : BitVec 12) (r : BitVec 4) :
    (h ++ r : Word).extractLsb' 12 4 = h.extractLsb' 8 4 ∧ (h ++ r : Word).extractLsb' 8 4 = h.extractLsb' 4 4 ∧
      (h ++ r : Word).extractLsb' 4 8 = h.extractLsb' 0 8 ∧ (h ++ r : Word).extractLsb' 0 4 = r :=
  ⟨high_part h r (by decide), high_part h r (by decide), high_part h r (by decide), low_part h r⟩

/-! ## Decode of encode -/

theorem decode_eq_ok_iff {p : Part} {w : Word} {i : Instr} : decode p w = .ok i ↔ decodeRow p w = some i := by
  unfold decode
  split <;> simp [*]

/-- LIIM has no operand field: of its seven bits two are the mask (R282). -/
theorem decodeRow_liim (x : BitVec 5) (n : BitVec 2) : decodeRow .tms9940 (encode (.liim x n)) = some (.liim x n) :=
  decode_eq_ok_iff.mp (Machine.decode_liim x n)

theorem decodeXop_xop {p : Part} {w : Word} (h : p = .tms9940 → 4 ≤ (regField w).toNat) :
    decodeXop p w = some (.xop (regField w) (srcField w)) := by
  unfold decodeXop
  split
  next chip =>
    have above := h chip
    split
    case h_5 => rfl
    all_goals omega
  next => rfl

/-- Each group of cases is a format, whose fields give the row and the operands back. -/
theorem decodeRow_encode (p : Part) (i : Instr) (h : i.wf p = true) : decodeRow p (encode i) = some i := by
  obtain ⟨part, wf⟩ : i.onPart p = true ∧ i.operands.all Operand.wf = true := by
    simpa only [Instr.wf, Bool.and_eq_true] using h
  cases i with
  | li _ | ai _ | andi _ | ori _ | ci _ | stwp _ | stst _ =>
    simp [encode, decodeRow, decodeLow, decodeInternal, internal_fields, -BitVec.extractLsb'_toNat]
  | lwpi | limi | idle | rtwp => rfl
  | rset | ckon | ckof | lrex =>
    have notChip : p ≠ .tms9940 := by simpa [Instr.onPart] using part
    simp [encode, decodeRow, decodeLow, decodeInternal, notChip]
  | blwp o | b o | x o | clr o | neg o | inv o | inc o | inct o | dec o | dect o | bl o | swpb o | seto o | abs o =>
    have operand : o.wf = true := by simpa [Instr.operands] using wf
    simp [encode, decodeRow, decodeLow, decodeSingle, single_fields, Operand.decode_code o operand,
      -BitVec.extractLsb'_toNat]
  | sra _ _ | srl _ _ | sla _ _ | src _ _ =>
    simp [encode, decodeRow, decodeLow, shift_fields, -BitVec.extractLsb'_toNat]
  | jmp _ | jlt _ | jle _ | jeq _ | jhe _ | jgt _ | jne _ | jnc _ | joc _ | jno _ | jl _ | jh _ | jop _ | sbo _ | sbz _
  | tb _ =>
    simp [encode, decodeRow, decodeJump, jump_fields, -BitVec.extractLsb'_toNat]
  | coc _ o | czc _ o | xor _ o | ldcr _ o | stcr _ o | mpy _ o | div _ o =>
    have operand : o.wf = true := by simpa [Instr.operands] using wf
    simp [encode, decodeRow, decodeRegister, register_fields, Operand.decode_code o operand, -BitVec.extractLsb'_toNat]
  | xop n o =>
    have operand : o.wf = true := by simpa [Instr.operands] using wf
    have above : p = .tms9940 → 4 ≤ n.toNat := by simpa [Instr.onPart, or_iff_not_imp_left] using part
    have row : decodeXop p (encode (.xop n o)) = some (.xop n o) := by
      simpa [encode, register_fields, Operand.decode_code o operand] using
        decodeXop_xop (p := p) (w := encode (.xop n o)) (by simpa [encode, register_fields] using above)
    simpa [encode, decodeRow, decodeRegister, register_fields, -BitVec.extractLsb'_toNat] using row
  | dca o | dcs o =>
    have operand : o.wf = true := by simpa [Instr.operands] using wf
    have chip : p = .tms9940 := by simpa [Instr.onPart] using part
    simp [encode, decodeRow, decodeRegister, decodeXop, chip, single_fields, Operand.decode_code o operand,
      -BitVec.extractLsb'_toNat]
  | liim x n =>
    have chip : p = .tms9940 := by simpa [Instr.onPart] using part
    rw [chip]; exact decodeRow_liim x n
  | szc s d | szcb s d | s s d | sb s d | c s d | cb s d | a s d | ab s d | mov s d | movb s d | soc s d | socb s d =>
    obtain ⟨source, target⟩ : s.wf = true ∧ d.wf = true := by simpa [Instr.operands] using wf
    simp [encode, decodeRow, double_fields, Operand.decode_code, source, target, -BitVec.extractLsb'_toNat]

/-- Settles O1: the word is put together from its two bytes as it was taken apart. -/
theorem decodeOfEncode : Obligations.decode_of_encode := by
  intro p i rest h
  have word : decode p (encode i) = .ok i := decode_eq_ok_iff.mpr (decodeRow_encode p i h)
  refine ⟨word, ?_⟩
  simp only [encodeBytes, List.cons_append, List.nil_append, decodeBytes, Machine.word_of_halves, word]

/-! ## Encode of decode -/

/-- A word is its high part and its low part. -/
theorem parts_append {n m : Nat} (w : BitVec (n + m)) : w.extractLsb' m n ++ w.extractLsb' 0 m = w :=
  (BitVec.extractLsb'_append_extractLsb'_eq_extractLsb' (Nat.zero_add m).symm).trans BitVec.extractLsb'_eq_self

theorem high_append_low {n m k : Nat} (w : BitVec (n + m)) (head : (w.extractLsb' m n).toNat = k) :
    BitVec.ofNat n k ++ w.extractLsb' 0 m = w := by
  rw [← head, BitVec.ofNat_toNat, BitVec.setWidth_eq, parts_append]

/-- The same where the low part is two fields. -/
theorem high_append_fields {n m k c : Nat} (w : BitVec (n + m + k)) (head : (w.extractLsb' (m + k) n).toNat = c) :
    BitVec.ofNat n c ++ w.extractLsb' k m ++ w.extractLsb' 0 k = w := by
  have join : w.extractLsb' (m + k) n ++ w.extractLsb' k m = w.extractLsb' k (n + m) :=
    BitVec.extractLsb'_append_extractLsb'_eq_extractLsb' (Nat.add_comm m k)
  rw [← head, BitVec.ofNat_toNat, BitVec.setWidth_eq, join, parts_append]

theorem field_toNat (w : Word) (start len : Nat) : (w.extractLsb' start len).toNat = w.toNat / 2 ^ start % 2 ^ len := by
  rw [BitVec.extractLsb'_toNat, Nat.shiftRight_eq_div_pow]

section

variable {p : Part} {w : Word} {i : Instr} {k : Nat}

/-- Formats F7, F8 and F9. -/
theorem internal_word (page : (w.extractLsb' 12 4).toNat = 0) (row : (w.extractLsb' 4 8).toNat = k) :
    BitVec.ofNat 12 k ++ w.extractLsb' 0 4 = w := by
  have head : (w.extractLsb' 4 12).toNat = k := by
    rw [field_toNat] at *; omega
  exact high_append_low (n := 12) (m := 4) w head

/-- Format F6. -/
theorem single_word (page : (w.extractLsb' 12 4).toNat = 0) (row : (w.extractLsb' 6 6).toNat = k) :
    BitVec.ofNat 10 k ++ (srcField w).code = w := by
  have head : (w.extractLsb' 6 10).toNat = k := by
    rw [field_toNat] at *; omega
  rw [srcField, Operand.code_decode]
  exact high_append_low (n := 10) (m := 6) w head

/-- Format F5. -/
theorem shift_word (page : (w.extractLsb' 12 4).toNat = 0) (row : (w.extractLsb' 8 4).toNat = k) :
    BitVec.ofNat 8 k ++ w.extractLsb' 4 4 ++ w.extractLsb' 0 4 = w := by
  have head : (w.extractLsb' 8 8).toNat = k := by
    rw [field_toNat] at *; omega
  exact high_append_fields (n := 8) (m := 4) (k := 4) w head

/-- Format F2. -/
theorem jump_word (page : (w.extractLsb' 12 4).toNat = 1) (row : (w.extractLsb' 8 4).toNat = k) :
    BitVec.ofNat 8 (k + 0x10) ++ w.extractLsb' 0 8 = w := by
  have head : (w.extractLsb' 8 8).toNat = k + 0x10 := by
    rw [field_toNat] at *; omega
  exact high_append_low (n := 8) (m := 8) w head

/-- Formats F3 and F4. -/
theorem register_word (page : (w.extractLsb' 13 3).toNat = 1) (row : (w.extractLsb' 10 3).toNat = k) :
    BitVec.ofNat 6 (k + 0x8) ++ regField w ++ (srcField w).code = w := by
  have head : (w.extractLsb' 10 6).toNat = k + 0x8 := by
    rw [field_toNat] at *; omega
  rw [srcField, Operand.code_decode]
  exact high_append_fields (n := 6) (m := 4) (k := 6) w head

/-- Format F1. -/
theorem double_word (page : (w.extractLsb' 12 4).toNat = k) :
    BitVec.ofNat 4 k ++ (dstField w).code ++ (srcField w).code = w := by
  rw [srcField, dstField, Operand.code_decode, Operand.code_decode]
  exact high_append_fields (n := 4) (m := 6) (k := 6) w page

/-- DCA and DCS, among the words that are XOP's on the other parts (R284). -/
theorem adjust_word (page : (w.extractLsb' 13 3).toNat = 1) (row : (w.extractLsb' 10 3).toNat = 3)
    (number : (regField w).toNat = k) : BitVec.ofNat 10 (k + 0xB0) ++ (srcField w).code = w := by
  have head : (w.extractLsb' 6 10).toNat = k + 0xB0 := by
    rw [regField] at number
    rw [field_toNat] at *; omega
  rw [srcField, Operand.code_decode]
  exact high_append_low (n := 10) (m := 6) w head

/-- LIIM, whose row does not fix one bit of that field (R282). -/
theorem liim_word (page : (w.extractLsb' 13 3).toNat = 1) (row : (w.extractLsb' 10 3).toNat = 3)
    (number : (regField w).toNat / 2 = 1) : 0x59#9 ++ w.extractLsb' 2 5 ++ w.extractLsb' 0 2 = w := by
  have head : (w.extractLsb' 7 9).toNat = 0x59 := by
    rw [regField] at number
    rw [field_toNat] at *; omega
  exact high_append_fields (n := 9) (m := 5) (k := 2) w head

theorem srcField_wf : (srcField w).wf = true := Operand.decode_wf _

theorem dstField_wf : (dstField w).wf = true := Operand.decode_wf _

/-- What encode of decode says of an instruction and its word. -/
def Encodes (p : Part) (i : Instr) (w : Word) : Prop := encode i = w ∧ i.wf p = true

theorem encodes_of_decodeInternal (page : (w.extractLsb' 12 4).toNat = 0) (h : decodeInternal p w = some i) :
    Encodes p i w := by
  have fixed {c : Nat} {j : Instr} (row : (w.extractLsb' 4 8).toNat = c) (zero : w.extractLsb' 0 4 = 0)
      (enc : encode j = BitVec.ofNat 12 c ++ (0#4)) : encode j = w := by
    rw [enc, ← internal_word page row, zero]
    rfl
  simp only [decodeInternal] at h
  split at h
  case h_1 row | h_2 row | h_3 row | h_4 row | h_5 row | h_6 row | h_7 row =>
    cases h
    exact ⟨internal_word page row, rfl⟩
  case h_8 row | h_9 row | h_10 row | h_12 row =>
    obtain ⟨zero, rfl⟩ : w.extractLsb' 0 4 = 0 ∧ _ = i := by simpa using h
    exact ⟨fixed row zero rfl, rfl⟩
  case h_11 row | h_13 row | h_14 row | h_15 row =>
    obtain ⟨notChip, zero, rfl⟩ : p ≠ .tms9940 ∧ w.extractLsb' 0 4 = 0 ∧ _ = i := by simpa using h
    exact ⟨fixed row zero rfl, by simpa [Instr.wf, Instr.onPart, Instr.operands] using notChip⟩
  case h_16 => cases h

theorem encodes_of_decodeSingle (page : (w.extractLsb' 12 4).toNat = 0) (h : decodeSingle w = some i) :
    Encodes p i w := by
  simp only [decodeSingle] at h
  split at h
  case h_15 => cases h
  all_goals
    cases h
    exact ⟨single_word page ‹_›, by simp [Instr.wf, Instr.onPart, Instr.operands, srcField_wf]⟩

theorem encodes_of_decodeLow (page : (w.extractLsb' 12 4).toNat = 0) (h : decodeLow p w = some i) :
    Encodes p i w := by
  simp only [decodeLow] at h
  split at h
  case h_1 | h_2 => exact encodes_of_decodeInternal page h
  case h_3 | h_4 | h_5 | h_6 => exact encodes_of_decodeSingle page h
  case h_7 row | h_8 row | h_9 row | h_10 row =>
    cases h
    exact ⟨shift_word page row, rfl⟩
  case h_11 => cases h

theorem encodes_of_decodeJump (page : (w.extractLsb' 12 4).toNat = 1) (h : decodeJump w = some i) :
    Encodes p i w := by
  simp only [decodeJump] at h
  split at h
  case h_16 =>
    have row : (w.extractLsb' 8 4).toNat = 0xF := by
      have bound := (w.extractLsb' 8 4).isLt
      simp only [imp_false] at *
      omega
    cases h
    exact ⟨jump_word page row, rfl⟩
  all_goals
    cases h
    exact ⟨jump_word page ‹_›, rfl⟩

theorem encodes_of_decodeXop (page : (w.extractLsb' 13 3).toNat = 1) (row : (w.extractLsb' 10 3).toNat = 3)
    (h : decodeXop p w = some i) : Encodes p i w := by
  simp only [decodeXop] at h
  split at h
  next chip =>
    split at h
    case h_1 number | h_2 number =>
      cases h
      exact ⟨adjust_word page row number, by simp [Instr.wf, Instr.onPart, Instr.operands, srcField_wf, chip]⟩
    case h_3 number | h_4 number =>
      cases h
      exact ⟨liim_word page row (by omega), by simp [Instr.wf, Instr.onPart, Instr.operands, chip]⟩
    case h_5 =>
      have above : 4 ≤ (regField w).toNat := by
        simp only [imp_false] at *
        omega
      cases h
      exact ⟨register_word page row, by simp [Instr.wf, Instr.onPart, Instr.operands, srcField_wf, above]⟩
  next other =>
    cases h
    exact ⟨register_word page row, by simp [Instr.wf, Instr.onPart, Instr.operands, srcField_wf, other]⟩

theorem encodes_of_decodeRegister (page : (w.extractLsb' 13 3).toNat = 1) (h : decodeRegister p w = some i) :
    Encodes p i w := by
  simp only [decodeRegister] at h
  split at h
  case h_4 row => exact encodes_of_decodeXop page row h
  case h_8 =>
    have row : (w.extractLsb' 10 3).toNat = 7 := by
      have bound := (w.extractLsb' 10 3).isLt
      simp only [imp_false] at *
      omega
    cases h
    exact ⟨register_word page row, by simp [Instr.wf, Instr.onPart, Instr.operands, srcField_wf]⟩
  all_goals
    cases h
    exact ⟨register_word page ‹_›, by simp [Instr.wf, Instr.onPart, Instr.operands, srcField_wf]⟩

theorem encodes_of_decodeRow (h : decodeRow p w = some i) : Encodes p i w := by
  simp only [decodeRow] at h
  split at h
  case h_1 page => exact encodes_of_decodeLow page h
  case h_2 page => exact encodes_of_decodeJump page h
  case h_3 page | h_4 page =>
    have half : (w.extractLsb' 13 3).toNat = 1 := by
      rw [field_toNat] at *
      omega
    exact encodes_of_decodeRegister half h
  case h_16 =>
    have page : (w.extractLsb' 12 4).toNat = 0xF := by
      have bound := (w.extractLsb' 12 4).isLt
      simp only [imp_false] at *
      omega
    cases h
    exact ⟨double_word page, by simp [Instr.wf, Instr.onPart, Instr.operands, srcField_wf, dstField_wf]⟩
  all_goals
    cases h
    exact ⟨double_word ‹_›, by simp [Instr.wf, Instr.onPart, Instr.operands, srcField_wf, dstField_wf]⟩

end

/-- Settles O2: page by page of the decoder's tree the word is put together again from the fields it was read from. -/
theorem encodeOfDecode : Obligations.encode_of_decode := fun _ _ _ decoded =>
  encodes_of_decodeRow (decode_eq_ok_iff.mp decoded)

/-- Settles O4: the decoder run on the nine words. -/
theorem wordsFromTheTable : Obligations.words_from_the_table :=
  ⟨rfl, rfl, rfl, rfl, rfl, rfl, rfl, rfl, rfl⟩

end Sys2Proof
end

section
/-! PROOFS. The words of no row (O3): page by page, and within the first page row by row. -/

namespace Sys2Proof

variable {p : Part} {w : Word}

theorem decode_undefined_iff : decode p w = .error (.undefinedOpcode w) ↔ decodeRow p w = none := by
  unfold decode
  split
  next _ row => simp [row]
  next row => simp [row]

/-! ## The rows that have every word -/

theorem decodeJump_ne_none : decodeJump w ≠ none := by
  unfold decodeJump
  split <;> exact Option.some_ne_none _

theorem decodeXop_ne_none : decodeXop p w ≠ none := by
  unfold decodeXop
  split
  · split <;> exact Option.some_ne_none _
  · exact Option.some_ne_none _

theorem decodeRegister_ne_none : decodeRegister p w ≠ none := by
  unfold decodeRegister
  split
  case h_4 => exact decodeXop_ne_none
  all_goals exact Option.some_ne_none _

/-- Only the first page has words of no row. -/
theorem decodeRow_eq_none_iff : decodeRow p w = none ↔ (w.extractLsb' 12 4).toNat = 0 ∧ decodeLow p w = none := by
  unfold decodeRow
  split
  case h_1 page => simp only [page, true_and]
  case h_2 page => simp only [page, Nat.succ_ne_zero, false_and, decodeJump_ne_none]
  case h_3 page | h_4 page => simp only [page, Nat.succ_ne_zero, false_and, decodeRegister_ne_none]
  case h_16 =>
    have notFirst : (w.extractLsb' 12 4).toNat ≠ 0 := ‹(w.extractLsb' 12 4).toNat = 0 → False›
    simp only [notFirst, false_and, reduceCtorEq]
  all_goals simp only [*, Nat.succ_ne_zero, false_and, reduceCtorEq]

/-! ## The first page -/

theorem decodeSingle_eq_none_iff (group : 0x10 ≤ (w.extractLsb' 6 6).toNat ∧ (w.extractLsb' 6 6).toNat < 0x20) :
    decodeSingle w = none ↔ 0x1E ≤ (w.extractLsb' 6 6).toNat := by
  unfold decodeSingle
  split
  case h_15 =>
    simp only [imp_false] at *
    simp only [true_iff]
    omega
  all_goals simp [*, -BitVec.extractLsb'_toNat]

/-- Of the rows 0x20 to 0x3F of formats F7, F8 and F9, bits 11..4 `q` and bits 3..0 `r`: the words of no row. An odd
row has none, nor has row 0x32, and from LWPI on bits 3..0 are 0 (R130); a TMS 9940 has four rows less (R122). -/
def InternalUndefined (p : Part) (q r : Nat) : Prop :=
  q % 2 = 1 ∨ q = 0x32 ∨ (0x2E ≤ q ∧ r ≠ 0) ∨ (p = .tms9940 ∧ (q = 0x36 ∨ 0x3A ≤ q))

theorem decodeInternal_eq_none_iff (group : 0x20 ≤ (w.extractLsb' 4 8).toNat ∧ (w.extractLsb' 4 8).toNat < 0x40) :
    decodeInternal p w = none ↔ InternalUndefined p (w.extractLsb' 4 8).toNat (w.extractLsb' 0 4).toNat := by
  have zero : w.extractLsb' 0 4 = 0#4 ↔ (w.extractLsb' 0 4).toNat = 0 := BitVec.toNat_inj.symm
  simp only [decodeInternal, InternalUndefined]
  split
  case h_16 =>
    simp only [imp_false] at *
    simp only [true_iff]
    omega
  case h_11 row | h_13 row | h_14 row | h_15 row =>
    by_cases chip : p = .tms9940 <;> simp [row, zero, chip, -BitVec.extractLsb'_toNat]
  all_goals simp [*, -BitVec.extractLsb'_toNat]

theorem decodeLow_eq_none_iff :
    decodeLow p w = none ↔
      ((w.extractLsb' 8 4).toNat = 2 ∨ (w.extractLsb' 8 4).toNat = 3) ∧
          InternalUndefined p (w.extractLsb' 4 8).toNat (w.extractLsb' 0 4).toNat ∨
        (w.extractLsb' 8 4).toNat = 7 ∧ 0x1E ≤ (w.extractLsb' 6 6).toNat ∨
        (w.extractLsb' 8 4).toNat < 2 ∨ 12 ≤ (w.extractLsb' 8 4).toNat := by
  unfold decodeLow
  split
  case h_1 row | h_2 row =>
    have range : 0x20 ≤ (w.extractLsb' 4 8).toNat ∧ (w.extractLsb' 4 8).toNat < 0x40 := by
      rw [field_toNat] at *
      omega
    simp [decodeInternal_eq_none_iff range, row, -BitVec.extractLsb'_toNat]
  case h_6 row =>
    have range : 0x10 ≤ (w.extractLsb' 6 6).toNat ∧ (w.extractLsb' 6 6).toNat < 0x20 := by
      rw [field_toNat] at *
      omega
    simp [decodeSingle_eq_none_iff range, row, -BitVec.extractLsb'_toNat]
  case h_3 row | h_4 row | h_5 row =>
    have range : 0x10 ≤ (w.extractLsb' 6 6).toNat ∧ (w.extractLsb' 6 6).toNat < 0x1C := by
      rw [field_toNat] at *
      omega
    have defd : ¬ 0x1E ≤ (w.extractLsb' 6 6).toNat := by omega
    simp [decodeSingle_eq_none_iff ⟨range.1, by omega⟩, row, defd, -BitVec.extractLsb'_toNat]
  case h_7 row | h_8 row | h_9 row | h_10 row => simp [row, -BitVec.extractLsb'_toNat]
  case h_11 =>
    simp only [imp_false] at *
    simp only [true_iff]
    omega

/-- The fields of a word of the formats F7, F8 and F9, as ranges of words (R130, R122). -/
theorem internalUndefined_iff {n : Nat} (group : 0x200 ≤ n ∧ n < 0x400) :
    InternalUndefined p (n / 16 % 256) (n % 16) ↔
      (n ≤ 0x2DF ∧ n / 16 % 2 = 1) ∨ (0x2E1 ≤ n ∧ n ≤ 0x2FF) ∨ (0x301 ≤ n ∧ n ≤ 0x33F) ∨ (0x341 ≤ n ∧ n ≤ 0x35F) ∨
        (0x361 ≤ n ∧ n ≤ 0x37F) ∨ (0x381 ≤ n ∧ n ≤ 0x39F) ∨ (0x3A1 ≤ n ∧ n ≤ 0x3BF) ∨ (0x3C1 ≤ n ∧ n ≤ 0x3DF) ∨
        0x3E1 ≤ n ∨ (p = .tms9940 ∧ (n = 0x360 ∨ n = 0x3A0 ∨ n = 0x3C0 ∨ n = 0x3E0)) := by
  unfold InternalUndefined
  by_cases chip : p = .tms9940
  · simp only [chip, true_and]
    omega
  · simp only [chip, false_and, or_false]
    omega

/-- Settles O3: the words below 0x0200, those of the formats F7, F8 and F9, and two ranges above them. -/
theorem undefinedWords : Obligations.undefined_words := by
  intro p w
  have bit : w.getLsbD 4 = true ↔ w.toNat / 16 % 2 = 1 := by
    simp [BitVec.getLsbD, Nat.testBit_eq_decide_div_mod_eq]
  have word (v : Word) : w = v ↔ w.toNat = v.toNat := BitVec.toNat_inj.symm
  simp only [decode_undefined_iff, decodeRow_eq_none_iff, decodeLow_eq_none_iff, field_toNat, bit, word,
    BitVec.reduceToNat, Nat.reducePow, Nat.div_one]
  have bound := w.isLt
  generalize w.toNat = n at *
  by_cases internal : 0x200 ≤ n ∧ n < 0x400
  · have page : n / 4096 % 16 = 0 := by omega
    have group : (n / 256 % 16 = 2 ∨ n / 256 % 16 = 3) ∧ ¬ n / 256 % 16 = 7 ∧ ¬ n / 256 % 16 < 2 ∧
        ¬ 12 ≤ n / 256 % 16 := by omega
    have range : ¬ n ≤ 0x1FF ∧ n ≤ 0x3FF ∧ ¬ 0x780 ≤ n ∧ ¬ 0xC00 ≤ n := by omega
    simp only [page, group, range, internal, internalUndefined_iff internal, true_and, and_true, false_and, false_or,
      or_false]
  · have group : ¬ (n / 4096 % 16 = 0 ∧ (n / 256 % 16 = 2 ∨ n / 256 % 16 = 3)) := by omega
    have fixed : ¬ (n = 0x360 ∨ n = 0x3A0 ∨ n = 0x3C0 ∨ n = 0x3E0) := by omega
    have between {a b : Nat} (above : 0x200 ≤ a) (below : b < 0x400) : ¬ (a ≤ n ∧ n ≤ b) := by omega
    have others : (n / 4096 % 16 = 0 ∧ n / 256 % 16 = 7) ∧ 0x1E ≤ n / 64 % 64 ∨
        n / 4096 % 16 = 0 ∧ n / 256 % 16 < 2 ∨ n / 4096 % 16 = 0 ∧ 12 ≤ n / 256 % 16 ↔
          n ≤ 0x1FF ∨ (0x780 ≤ n ∧ n ≤ 0x7FF) ∨ (0xC00 ≤ n ∧ n ≤ 0xFFF) := by omega
    simpa (disch := decide) only [and_or_left, ← and_assoc, group, between, fixed, false_and, and_false, false_or,
      or_false] using others

end Sys2Proof
end

section
/-! PROOFS. Effective addresses (O7) and operands (O8): both are made of register accesses, `Fetch` and a word read. -/

namespace Sys2Proof.Machine

variable {s t u : State}

/-! ## Frames, where nothing is written and one after another -/

theorem Frame.refl (fs : List Flag) (s : State) : Frame fs s s :=
  ⟨fun _ _ => rfl, rfl, rfl, ⟨rfl, rfl, rfl, rfl, rfl, rfl⟩, rfl⟩

theorem MemKept.trans (first : MemKept s t) (second : MemKept t u) : MemKept s u := fun b =>
  (second b).trans (first b)

/-! ## `Fetch`, from the state with `pc` past the word -/

theorem fetch_onlyDevices (q : s.during = []) : OnlyDevices (s.setPc (s.pc + 2)) (fetch s).2 where
  cpu := (fetch_kept s q).1
  mem := fetch_mem s q
  pc := fetch_pc s
  wp := fetch_wp s
  st := fetch_st s

theorem fetch_frame (q : s.during = []) : Frame [] (s.setPc (s.pc + 2)) (fetch s).2 :=
  ⟨stKeptBut_of_st (fetch_st s), fetch_pc s, fetch_wp s, fetch_kept s q⟩

/-! ## Auto-increment -/

/-- The register is written after it has been read, and holds its value and the size of the operation (R110). -/
theorem effAddr_autoInc_stored (r : Reg) (z : Size) (q : s.during = []) (holds : s.holdsWord (regAddr s r) = true) :
    WordStored s (effAddr (.autoInc r) z s).2 (regAddr s r) (s.peekReg r + sizeStep z) := by
  have address : regAddr (readReg r s).2 r = regAddr s r := by simp [regAddr]
  have value : (readReg r s).1 = s.peekReg r := readWord_value _ s q holds
  have read : OnlyDevices s (readReg r s).2 := .readReg r q
  simp only [effAddr, writeReg, address, value]
  exact read.then_wordStored (writeWord_stored _ _ _ (read.quiet q))

theorem effAddr_autoInc_frame (r : Reg) (z : Size) (q : s.during = []) :
    Frame [] s (effAddr (.autoInc r) z s).2 :=
  have read : Frame [] s (readReg r s).2 := readWord_frame _ s q
  read.trans (writeWord_frame _ _ _ (read.quiet q))

/-! ## The obligations -/

/-- Settles O7, mode by mode. -/
theorem effectiveAddress : Obligations.effective_address := by
  intro r z s q
  have fetched : OnlyDevices (s.setPc (s.pc + 2)) (fetch s).2 := fetch_onlyDevices q
  have quiet : (fetch s).2.during = [] := fetched.quiet q
  refine ⟨rfl, ⟨readWord_value _ s q, readWord_memKept _ s q, readWord_frame _ s q⟩,
    ⟨readWord_value _ s q, fetch_memKept s q, fetch_frame q⟩, ⟨fun word register => ?indexed, ?_, ?_⟩,
    fun register => ⟨readWord_value _ s q register, ?autoInc⟩, effAddr_autoInc_frame r z q⟩
  case indexed =>
    have base : (fetch s).1 = s.peekWord s.pc := readWord_value s.pc s q word
    have index : (readReg r (fetch s).2).1 = s.peekReg r := fetched.readReg_value q register
    simp only [effAddr, base, index]
  · exact (fetch_memKept s q).trans (readWord_memKept _ _ quiet)
  · exact (fetch_frame q).trans (readWord_frame _ _ quiet)
  case autoInc => cases z <;> exact effAddr_autoInc_stored r _ q register

/-- Settles O8: an operand is read by one word read at its address, from the state after the address is computed. -/
theorem operandRead : Obligations.operand_read := by
  intro o s q
  have word : (effAddr o .word s).2.during = [] := effAddr_quiet o .word s q
  have byte : (effAddr o .byte s).2.during = [] := effAddr_quiet o .byte s q
  exact ⟨⟨rfl, readWord_value _ _ word, readWord_memKept _ _ word, readWord_frame _ _ word⟩,
    rfl, readByte_value_of_holds _ _ byte, readWord_memKept _ _ byte, readWord_frame _ _ byte⟩

end Sys2Proof.Machine
end

section
/-! PROOFS. What the step does with a word of no row, fetched or read by X (O10): what UNDEFINED_OPCODE makes of it. -/

namespace Sys2Proof.Machine

variable {t u : State} {w : Word}

/-! ## The word to be executed -/

theorem drain_of_next (n : Nat) (xword : t.xword = none) (ran : runWord w t = .next u) :
    drain (n + 1) (t.setXword (some w)) = drain n u := by
  simp only [drain, State.setXword_xword, setXword_setXword_none _ xword, ran]

theorem drain_of_refused {r : Refusal} (n : Nat) (xword : t.xword = none) (ran : runWord w t = .refused r) :
    drain (n + 1) (t.setXword (some w)) = .refused r := by
  simp only [drain, State.setXword_xword, setXword_setXword_none _ xword, ran]

/-- A word whose meaning is an instruction other than X is that instruction, and the chain ends with it. -/
theorem drain_of_exec {i : Instr} (n : Nat) (xword : t.xword = none) (ran : runWord w t = exec i t)
    (notX : ∀ o, i ≠ .x o) : drain (n + 1) (t.setXword (some w)) = exec i t := by
  obtain ⟨u, next⟩ := everyInstructionCompletes i t
  have ended : u.xword = none := ((exec_xword i t notX).of_eq next).trans xword
  rw [drain_of_next n xword (ran.trans next), drain_none n ended, next]

/-! ## A word of no row -/

theorem runWord_of_undefined {e : Reject} (undefd : decode t.cfg.part w = .error e) :
    runWord w t = runUndefined w t := by
  simp only [runWord, undefd]

section
variable {keep set : Word}

theorem runUndefined_refuse (rule : t.cfg.undefinedRule = .refuse) :
    runUndefined w t = .refused (.undefinedOpcode w) := by
  simp only [runUndefined, rule, refuseWord]

theorem runUndefined_noOperation (rule : t.cfg.undefinedRule = .noOperation) : runUndefined w t = .next t := by
  simp only [runUndefined, rule]

theorem runUndefined_executeAs {i : Instr} (rule : t.cfg.undefinedRule = .executeAs keep set)
    (decoded : decode t.cfg.part ((w &&& keep) ||| set) = .ok i) : runUndefined w t = exec i t := by
  simp only [runUndefined, rule, decoded]

theorem runUndefined_executeAs_undefined {e : Reject} (rule : t.cfg.undefinedRule = .executeAs keep set)
    (again : decode t.cfg.part ((w &&& keep) ||| set) = .error e) :
    runUndefined w t = .refused (.undefinedOpcode w) := by
  simp only [runUndefined, rule, again, refuseWord]

end

/-- `o`, the outcome of a step that comes to the word `w` of no row in state `t`, is what UNDEFINED_OPCODE says (R130,
D11). -/
def Treated (w : Word) (t : State) (o : Host.Outcome State Fault Refusal) : Prop :=
  (t.cfg.undefinedRule = .refuse → o = .refused (.undefinedOpcode w)) ∧
    (t.cfg.undefinedRule = .noOperation → o = .next t) ∧
    ∀ keep set, t.cfg.undefinedRule = .executeAs keep set →
      (∀ i, decode t.cfg.part ((w &&& keep) ||| set) = .ok i → (∀ o, i ≠ .x o) → o = settle (exec i t)) ∧
        ∀ e, decode t.cfg.part ((w &&& keep) ||| set) = .error e → o = .refused (.undefinedOpcode w)

theorem drain_treated {e : Reject} (n : Nat) (xword : t.xword = none) (undriven : t.dev.misdriven = none)
    (undefd : decode t.cfg.part w = .error e) : Treated w t (settle (drain (n + 1) (t.setXword (some w)))) := by
  have ran : runWord w t = runUndefined w t := runWord_of_undefined undefd
  have refuses (refused : runUndefined w t = .refused (.undefinedOpcode w)) :
      settle (drain (n + 1) (t.setXword (some w))) = .refused (.undefinedOpcode w) := by
    rw [drain_of_refused n xword (ran.trans refused)]
    rfl
  refine ⟨fun rule => refuses (runUndefined_refuse rule), fun rule => ?_, fun keep set rule =>
    ⟨fun i decoded notX => ?_, fun e again => refuses (runUndefined_executeAs_undefined rule again)⟩⟩
  · rw [drain_of_next n xword (ran.trans (runUndefined_noOperation rule)), drain_none n xword, settle_next undriven]
  · rw [drain_of_exec n xword (ran.trans (runUndefined_executeAs rule decoded)) notX]

/-- Watching the bus drives no pin. -/
theorem misdriven_of_unwatched (h : u.dev.unwatched = t.dev.unwatched) : u.dev.misdriven = t.dev.misdriven :=
  (of_unwatched h).1

/-- Settles O10: the word fetched, or the word that X reads, is the word to be executed next. -/
theorem undefinedWordRefused : Obligations.undefined_word_refused := by
  intro s ready
  have start := step_of_ready ready
  obtain ⟨-, quiet, undriven, -, -, -, xword, -⟩ := ready
  intro p f treated
  have fetched : Kept (s.setInhibit false) f.2 := fetch_kept _ quiet
  obtain ⟨⟨cfg, -, -, pending, -, during⟩, watched⟩ := fetched
  have part : f.2.cfg.part = p := congrArg Platform.part cfg
  have noChain : f.2.xword = none := pending.trans xword
  have undrivenFetched : f.2.dev.misdriven = none := (misdriven_of_unwatched watched).trans undriven
  have ofTreated {w : Word} {t : State} (same : t.cfg = s.cfg) (h : Treated w t (step s)) : treated w t := by
    simpa only [Treated, same] using h
  refine ⟨fun e undefd => ofTreated cfg ?fetched, fun o e isX undefd =>
    ofTreated ((readOperand16_cfg o f.2).trans cfg) ?read⟩
  case fetched =>
    rw [start]
    exact drain_treated 15 noChain undrivenFetched (part ▸ undefd)
  case read =>
    have ran : runWord f.1 f.2 = .next ((readOperand16 o f.2).state.setXword (some (readOperand16 o f.2).value)) :=
      runWord_of_decode (part ▸ isX)
    obtain ⟨⟨cfgRead, -, -, pendingRead, -⟩, watchedRead⟩ := readOperand16_kept o f.2 (during.trans quiet)
    rw [start, execute, Config.executeDepth, drain_of_next 15 noChain ran]
    exact drain_treated 14 (pendingRead.trans noChain) ((misdriven_of_unwatched watchedRead).trans undrivenFetched)
      (cfgRead ▸ part ▸ undefd)

end Sys2Proof.Machine
end

section
/-! PROOFS. Why a step is refused (O16): the cycle of the machine refuses only a word of no row, and every pin that is
held against external logic is accounted for by an event of the step's inputs. -/

namespace Sys2Proof.Machine

variable {s t u : State} {n : Nat} {k : Fin 16}

/-! ## The decoder names the word it rejects -/

theorem decode_error {p : Part} {w : Word} {e : Reject} (h : decode p w = .error e) : e = .undefinedOpcode w := by
  unfold decode at h
  split at h
  · cases h
  · cases h
    rfl

/-! ## The cycle refuses only a word of no row -/

/-- If the outcome is a refusal, then of a word of no row, on a system that does not pass over such words. -/
def RefusesUndefined (s : State) (o : Host.Outcome State Fault Refusal) : Prop :=
  ∀ r, o = .refused r → ∃ w, r = .undefinedOpcode w ∧ decode s.cfg.part w = .error (.undefinedOpcode w) ∧
    s.cfg.undefinedRule ≠ .noOperation

namespace RefusesUndefined

theorem next (s t : State) : RefusesUndefined s (.next t) := nofun

theorem of_cfg {o : Host.Outcome State Fault Refusal} (h : RefusesUndefined t o) (cfg : t.cfg = s.cfg) :
    RefusesUndefined s o := by
  unfold RefusesUndefined at *
  rwa [← cfg]

theorem exec (i : Instr) (s : State) : RefusesUndefined s (exec i s) := by
  obtain ⟨t, e⟩ := everyInstructionCompletes i s
  rw [e]
  exact next s t

theorem refuseWord {w : Word} (undefd : decode s.cfg.part w = .error (.undefinedOpcode w))
    (rule : s.cfg.undefinedRule ≠ .noOperation) : RefusesUndefined s (refuseWord w) := by
  intro r e
  cases e
  exact ⟨w, rfl, undefd, rule⟩

theorem runUndefined {w : Word} (undefd : decode s.cfg.part w = .error (.undefinedOpcode w)) :
    RefusesUndefined s (runUndefined w s) := by
  unfold Machine.runUndefined
  split
  next rule => exact refuseWord undefd (by simp [rule])
  next => exact next s s
  next rule =>
    split
    · exact exec _ s
    · exact refuseWord undefd (by simp [rule])

theorem runWord (w : Word) (s : State) : RefusesUndefined s (runWord w s) := by
  unfold Machine.runWord
  split
  · exact exec _ s
  next undefd =>
    exact runUndefined (decode_error undefd ▸ undefd)

theorem drain (n : Nat) (s : State) : RefusesUndefined s (drain n s) := by
  induction n generalizing s with
  | zero => exact next s s
  | succ n ih =>
    unfold Machine.drain
    split
    · exact next s s
    next w _ =>
      have refuses : RefusesUndefined s (Machine.runWord w (s.setXword none)) := runWord w (s.setXword none)
      split
      next t ran =>
        have start : RomKept s (s.setXword none) := (RomKept.refl s).congr rfl rfl
        have kept : RomKept s t := ((RomKept.stepClosed s).runWord start w).of_eq ran
        exact (ih t).of_cfg kept.cfg
      next => exact nofun
      next r ran => rwa [ran] at refuses

theorem fetchExecute (s : State) : RefusesUndefined s (fetchExecute s) := by
  unfold Machine.fetchExecute
  split
  · exact next s s
  · exact (drain Config.executeDepth _).of_cfg (by simp)

theorem instructionStep (s : State) : RefusesUndefined s (instructionStep s) := by
  unfold Machine.instructionStep
  split
  · exact next s _
  · split
    · exact next s _
    · exact (fetchExecute (s.setInhibit false)).of_cfg rfl

theorem holdStep (s : State) : RefusesUndefined s (holdStep s) := by
  unfold Machine.holdStep
  split
  · split <;> exact next s _
  · exact next s s

theorem cycle (s : State) : RefusesUndefined s (cycle s) := by
  unfold Machine.cycle
  split
  · exact next s s
  split
  · exact next s _
  split
  · exact holdStep s
  split
  · exact drain _ s
  · exact instructionStep s

end RefusesUndefined

/-! ## Events that drive a pin in output mode (R393, U15) -/

theorem drivePsiP_misdriven (n : Nat) (k : Fin 16) (level : Bool) (s : State) :
    (s.drivePsiP n k level).dev.misdriven = if s.psiOutput n k = true then some (n, k) else s.dev.misdriven := by
  unfold State.drivePsiP
  split <;> rfl

theorem applyDev_driven (e : DevEvent) (h : (applyDev e s).dev.misdriven = some (n, k)) :
    s.dev.misdriven = some (n, k) ∨ ∃ level, e = .psiP n k level ∧ s.psiOutput n k = true := by
  cases e with
  | psiP m j level =>
    simp only [applyDev, drivePsiP_misdriven] at h
    split at h
    next output =>
      cases h
      exact .inr ⟨level, rfl, output⟩
    next => exact .inl h
  | _ => exact .inl h

theorem applyPlatform_driven (e : PlatformEvent) (h : (applyPlatform s e).dev.misdriven = some (n, k)) :
    s.dev.misdriven = some (n, k) ∨ ∃ level, e = .dev (.psiP n k level) ∧ s.psiOutput n k = true := by
  cases e with
  | dev d =>
    rcases applyDev_driven d h with before | ⟨level, rfl, output⟩
    · exact .inl before
    · exact .inr ⟨level, rfl, output⟩
  | _ => exact .inl h

theorem applyPlatforms_driven (es : List PlatformEvent) (h : (es.foldl applyPlatform s).dev.misdriven = some (n, k)) :
    s.dev.misdriven = some (n, k) ∨ ∃ level, PlatformEvent.dev (.psiP n k level) ∈ es := by
  induction es generalizing s with
  | nil => exact .inl h
  | cons e es ih =>
    rcases ih h with now | ⟨level, later⟩
    · rcases applyPlatform_driven e now with before | ⟨level, rfl, -⟩
      · exact .inl before
      · exact .inr ⟨level, List.mem_cons_self⟩
    · exact .inr ⟨level, List.mem_cons_of_mem e later⟩

/-! ## Another bus master drives no pin -/

theorem dmaRead_unwatched (a : Word) (s : State) : (s.dmaRead a).dev.unwatched = s.dev.unwatched := by
  unfold State.dmaRead
  split <;> simp only [readCycle16, readCycle8, cellByte_dev, emitAt_unwatched, seeAddr_unwatched]

theorem dmaWrite_unwatched (a v : Word) (s : State) : (s.dmaWrite a v).dev.unwatched = s.dev.unwatched := by
  unfold State.dmaWrite
  split <;> simp only [writeCycle16, writeCycle8, storeByte_dev, emitAt_unwatched, seeAddr_unwatched]

theorem applyMid_driven (e : MidEvent) (h : (applyMid s e).dev.misdriven = some (n, k)) :
    s.dev.misdriven = some (n, k) ∨ ∃ level, e = .dev (.psiP n k level) := by
  cases e with
  | dev d =>
    rcases applyDev_driven d h with before | ⟨level, rfl, -⟩
    · exact .inl before
    · exact .inr ⟨level, rfl⟩
  | dmaWrite a v => exact .inl ((misdriven_of_unwatched (dmaWrite_unwatched a v s)).symm.trans h)
  | dmaRead a => exact .inl ((misdriven_of_unwatched (dmaRead_unwatched a s)).symm.trans h)

theorem applyMids_driven (es : List MidEvent) (h : (es.foldl applyMid s).dev.misdriven = some (n, k)) :
    s.dev.misdriven = some (n, k) ∨ ∃ level, MidEvent.dev (.psiP n k level) ∈ es := by
  induction es generalizing s with
  | nil => exact .inl h
  | cons e es ih =>
    rcases ih h with now | ⟨level, later⟩
    · rcases applyMid_driven e now with before | ⟨level, rfl⟩
      · exact .inl before
      · exact .inr ⟨level, List.mem_cons_self⟩
    · exact .inr ⟨level, List.mem_cons_of_mem e later⟩

theorem busCycle_driven (h : s.busCycle.dev.misdriven = some (n, k)) :
    s.dev.misdriven = some (n, k) ∨
      ∃ batch level, batch ∈ s.during ∧ MidEvent.dev (.psiP n k level) ∈ batch := by
  unfold State.busCycle at h
  split at h
  next => exact .inl h
  next batch later during =>
    rcases applyMids_driven batch h with before | ⟨level, event⟩
    · exact .inl before
    · exact .inr ⟨batch, level, during ▸ List.mem_cons_self, event⟩

theorem react_driven (code : BitVec 3) (h : (s.react code).dev.misdriven = some (n, k)) :
    s.dev.misdriven = some (n, k) ∨ ∃ r level, r ∈ s.cfg.extCtl ∧ PlatformEvent.dev (.psiP n k level) ∈ r.now := by
  unfold State.react at h
  split at h
  next r found =>
    rcases applyPlatforms_driven r.now h with before | ⟨level, event⟩
    · exact .inl before
    · exact .inr ⟨r, level, List.mem_of_find?_eq_some found, event⟩
  next => exact .inl h

/-! ## The inputs of the step -/

theorem losePower_misdriven (s : State) : s.losePower.dev.misdriven = s.dev.misdriven := by
  unfold State.losePower
  split
  · split <;> rfl
  · rfl

theorem losePower_during (s : State) : s.losePower.during = s.during := by
  unfold State.losePower
  split
  · split <;> rfl
  · rfl

theorem startTest_misdriven (start : Word) (s : State) : (s.startTest start).dev.misdriven = s.dev.misdriven := by
  unfold State.startTest
  split <;> rfl

theorem startTest_during (start : Word) (s : State) : (s.startTest start).during = s.during := by
  unfold State.startTest
  split <;> rfl

theorem applyEvent_driven (e : Event) (h : (applyEvent s e).dev.misdriven = some (n, k)) :
    s.dev.misdriven = some (n, k) ∨ ∃ level, e = .platform (.dev (.psiP n k level)) ∧ s.psiOutput n k = true := by
  cases e with
  | platform d =>
    rcases applyPlatform_driven d h with before | ⟨level, rfl, output⟩
    · exact .inl before
    · exact .inr ⟨level, rfl, output⟩
  | standby => exact .inl ((losePower_misdriven s).symm.trans h)
  | dmaWrite a v =>
    simp only [applyEvent] at h
    split at h
    · exact .inl ((misdriven_of_unwatched (dmaWrite_unwatched a v s)).symm.trans h)
    · exact .inl h
  | dmaRead a =>
    simp only [applyEvent] at h
    split at h
    · exact .inl ((misdriven_of_unwatched (dmaRead_unwatched a s)).symm.trans h)
    · exact .inl h
  | hostLoad a b => exact .inl h
  | testStart start => exact .inl ((startTest_misdriven start s).symm.trans h)

/-- The events before the one that drives the pin are those after which it is in output mode. -/
theorem applyEvents_driven (es : List Event) (h : (applyEvents es s).dev.misdriven = some (n, k)) :
    s.dev.misdriven = some (n, k) ∨
      ∃ pre level post, es = pre ++ .platform (.dev (.psiP n k level)) :: post ∧
        (applyEvents pre s).psiOutput n k = true := by
  induction es generalizing s with
  | nil => exact .inl h
  | cons e es ih =>
    rcases ih h with now | ⟨pre, level, post, rfl, output⟩
    · rcases applyEvent_driven e now with before | ⟨level, rfl, output⟩
      · exact .inl before
      · exact .inr ⟨[], level, es, rfl, output⟩
    · exact .inr ⟨e :: pre, level, post, rfl, output⟩

theorem sample_driven (start : s.dev.misdriven = none) (h : (sample s).dev.misdriven = some (n, k)) :
    s.drivenInStep n k := by
  unfold sample at h
  split at h
  next => cases start.symm.trans h
  next batch later env =>
    rcases applyEvents_driven batch h with before | ⟨pre, level, post, rfl, output⟩
    · cases start.symm.trans before
    · exact .inl ⟨pre, level, post, later, env, output⟩

theorem applyEvent_during (s : State) (e : Event) : (applyEvent s e).during = s.during := by
  cases e with
  | platform d => exact applyPlatform_during s d
  | standby => exact losePower_during s
  | dmaWrite a v => simp only [applyEvent]; split <;> simp
  | dmaRead a => simp only [applyEvent]; split <;> simp
  | hostLoad a b => rfl
  | testStart start => exact startTest_during start s

theorem applyEvents_during (es : List Event) (s : State) : (applyEvents es s).during = s.during := by
  induction es generalizing s with
  | nil => rfl
  | cons e es ih => exact (ih (applyEvent s e)).trans (applyEvent_during s e)

theorem sample_during (s : State) : (sample s).during = s.during := by
  unfold sample
  split
  · rfl
  · exact applyEvents_during _ _

/-! ## A pin held against external logic, within the step -/

/-- From the state `s` before a step to `t` within it: the parameters are as they were, no new batch of outside events
has come, and each pin held against external logic was driven in the inputs of the step. -/
structure Accounted (s t : State) : Prop where
  cfg : t.cfg = s.cfg
  during : ∀ batch ∈ t.during, batch ∈ s.during
  driven : ∀ n k, t.dev.misdriven = some (n, k) → s.drivenInStep n k

namespace Accounted

theorem congr (h : Accounted s t) (cfg : u.cfg = t.cfg) (during : u.during = t.during)
    (driven : u.dev.misdriven = t.dev.misdriven) : Accounted s u :=
  ⟨cfg.trans h.cfg, fun batch mem => h.during batch (during ▸ mem), fun n k e => h.driven n k (driven ▸ e)⟩

/-- A bus cycle comes after the next batch of outside events (log entry 48). -/
theorem busCycle (h : Accounted s t) : Accounted s t.busCycle := by
  refine ⟨(State.busCycle_cfg t).trans h.cfg, fun batch mem => ?_, fun n k e => ?_⟩
  · rw [State.busCycle_during] at mem
    exact h.during batch (List.mem_of_mem_tail mem)
  · rcases busCycle_driven e with before | ⟨batch, level, mem, event⟩
    · exact h.driven n k before
    · exact .inr (.inl ⟨batch, level, h.during batch mem, event⟩)

theorem react (h : Accounted s t) (code : BitVec 3) : Accounted s (t.react code) := by
  refine ⟨(State.react_cfg t code).trans h.cfg, fun batch mem => ?_, fun n k e => ?_⟩
  · rw [State.react_during] at mem
    exact h.during batch mem
  · rcases react_driven code e with before | ⟨r, level, mem, event⟩
    · exact h.driven n k before
    · exact .inr (.inr ⟨r, level, h.cfg ▸ mem, event⟩)

theorem busIn (h : Accounted s t) (a : Nat) : Accounted s (busIn a t).2 :=
  h.congr (by simp) (by simp) (by rw [busIn_dev]; rfl)

theorem busOut (h : Accounted s t) (a : Nat) (b : Bool) : Accounted s (busOut a b t) :=
  h.congr (by simp) (by simp) rfl

theorem cruIn (h : Accounted s t) (a : Nat) : Accounted s (cruIn a t).2 := by
  unfold Machine.cruIn
  split
  · unfold chipIn State.anyBit
    split
    · split
      · exact h.busCycle.busIn a
      · exact h.busCycle.congr rfl rfl rfl
    · split <;> exact h.busCycle.congr rfl rfl rfl
  · exact h.busCycle.busIn a

theorem cruOut (h : Accounted s t) (a : Nat) (b : Bool) : Accounted s (cruOut a b t) := by
  unfold Machine.cruOut
  split
  · unfold chipOut
    simp only []
    split
    · split
      · exact h.busCycle.busOut a b
      · exact h.busCycle
    · split
      · exact h.busCycle.congr rfl rfl rfl
      · split <;> exact h.busCycle.congr rfl rfl rfl
  · exact h.busCycle.busOut a b

theorem extCtl (h : Accounted s t) (code : BitVec 3) : Accounted s (extCtl code t) := by
  have coded : Accounted s ((t.busCycle.emit (.extCtl code)).seeAddr 0) :=
    h.busCycle.congr (by simp) (by simp) (misdriven_of_unwatched (seeAddr_unwatched _ 0))
  exact coded.react code

theorem stepClosed (s : State) : StepClosed (Accounted s) where
  readWord h := h.busCycle.congr (by simp) (by simp) (misdriven_of_unwatched (busRead_unwatched _ _))
  writeWord h := h.busCycle.congr (by simp) (by simp) (misdriven_of_unwatched (busWrite_unwatched _ _ _))
  cruIn h := h.cruIn _
  cruOut h := h.cruOut _ _
  extCtl h := h.extCtl _
  setPc h := h.congr rfl rfl rfl
  setXword h := h.congr rfl rfl rfl
  useFree h := h.congr rfl rfl rfl
  setFlag _ _ _ _ h := h.congr rfl rfl rfl
  setAc _ h := h.congr rfl rfl rfl
  setWp h := h.congr rfl rfl rfl
  setMask h := h.congr (by simp) (by simp) (by simp)
  setHalted h := h.congr rfl rfl rfl
  setInhibit h := h.congr rfl rfl rfl
  setResetDue h := h.congr rfl rfl rfl
  setX _ h := h.congr rfl rfl rfl
  setSt h := h.congr rfl rfl rfl
  resetChip {t} h := by
    unfold Machine.resetChip
    split
    · exact h.congr rfl rfl rfl
    · exact h

theorem sample (start : s.dev.misdriven = none) : Accounted s (sample s) :=
  ⟨sample_cfg s, fun _ mem => sample_during s ▸ mem, fun _ _ e => sample_driven start e⟩

end Accounted

/-- Settles O16: the cycle refuses only a word of no row, and what `settle` refuses is accounted for. -/
theorem onlyRefusals : Obligations.only_refusals := by
  refine ⟨fun s start => ?_, fun n k level s => drivePsiP_misdriven n k level s⟩
  have accounted : NextMeets (Accounted s) (cycle (sample s)) :=
    (Accounted.stepClosed s).cycle (Accounted.sample start)
  have refuses : RefusesUndefined s (cycle (sample s)) := (RefusesUndefined.cycle (sample s)).of_cfg (sample_cfg s)
  unfold step
  cases ran : cycle (sample s) with
  | next t =>
    cases pin : t.dev.misdriven with
    | none => exact .inl ⟨t, settle_next pin⟩
    | some driven =>
      have held : settle (.next t) = .refused (.psiOutputDriven driven.1 driven.2) := by simp only [settle, pin]
      exact .inr (.inr ⟨driven.1, driven.2, held, (accounted.of_eq ran).driven _ _ pin⟩)
  | fault f => cases f
  | refused r =>
    obtain ⟨w, rfl, undefd, rule⟩ := refuses r ran
    exact .inr (.inl ⟨w, rfl, undefd, rule⟩)

end Sys2Proof.Machine
end

section
/-! PROOFS. LI, ANDI, ORI and XOR (O40), STST and STWP (O47), LWPI and LIMI (O48): what is read, and then a register
store, a new `wp` or a new mask. -/

namespace Sys2Proof.Machine

variable {s t : State}

/-! ## A register written, with the flags of the result -/

theorem regAddr_of_wp (w : Reg) (h : t.wp = s.wp) : regAddr t w = regAddr s w := by rw [regAddr, regAddr, h]

/-- A result goes into its register, then L>, A> and EQ, in a state with the workspace of `s`. -/
theorem setLAE_writeReg_spec (w : Reg) (r : Word) (wp : t.wp = s.wp) (q : t.during = []) :
    WordStored t (setLAE r (writeReg w r t)) (regAddr s w) r ∧ LaeOf (setLAE r (writeReg w r t)) r ∧
      Frame [.l, .a, .eq] t (setLAE r (writeReg w r t)) := by
  rw [← regAddr_of_wp w wp]
  exact setLAE_writeWord_spec (regAddr t w) r t q

/-- Settles O40: the operands are read, and the result is stored with its flags. -/
theorem registerLogic : Obligations.register_logic := by
  intro w src s q imm r a x
  have immQuiet : imm.2.during = [] := (fetch_onlyDevices q).quiet q
  have sourceQuiet : a.state.during = [] := readOperand16_quiet src s q
  have regWp : r.2.wp = s.wp := (readReg_wp w imm.2).trans (fetch_wp s)
  have destWp : x.2.wp = s.wp := (readReg_wp w a.state).trans (readOperand16_wp src s)
  have regQuiet : r.2.during = [] := (OnlyDevices.readReg w immQuiet).quiet immQuiet
  have destQuiet : x.2.during = [] := (OnlyDevices.readReg w sourceQuiet).quiet sourceQuiet
  have loaded := setLAE_writeReg_spec w imm.1 (fetch_wp s) immQuiet
  have combined (v : Word) := setLAE_writeReg_spec w v regWp regQuiet
  have exclusive := setLAE_writeReg_spec w (a.value ^^^ x.1) destWp destQuiet
  exact ⟨⟨_, rfl, loaded⟩, ⟨_, rfl, combined (r.1 &&& imm.1)⟩, ⟨_, rfl, combined (r.1 ||| imm.1)⟩,
    ⟨_, rfl, exclusive⟩⟩

/-! ## STST and STWP -/

/-- Settles O47: each is one register store, and its word is in its row of the opcode table. -/
theorem storeStatusAndWorkspace : Obligations.store_status_and_workspace := by
  intro w s q
  have written (v : Word) : WordStored s (writeReg w v s) (regAddr s w) v ∧ Frame [] s (writeReg w v s) :=
    ⟨writeWord_stored _ v s q, writeWord_frame _ v s q⟩
  exact ⟨⟨_, rfl, written s.st⟩, ⟨_, rfl, written s.wp⟩, Laws.RowMatch.stst w, Laws.RowMatch.stwp w⟩

/-! ## LWPI and LIMI -/

theorem setMask_kept (v : BitVec 4) (s : State) : Kept s (s.setMask v) :=
  ⟨⟨by simp, by simp, by simp, by simp, by simp, by simp⟩, by simp⟩

theorem setMask_low_maskLevel (v : Word) (s : State) :
    (s.setMask (v.extractLsb' 0 4)).maskLevel = if s.cfg.part = .tms9940 then v.toNat % 4 else v.toNat % 16 := by
  rw [setMask_maskLevel, maskWidth]
  split <;> simp

/-- Settles O48: the immediate word is fetched, and is the new `wp`, or its low bits the new mask. -/
theorem loadWorkspaceAndMask : Obligations.load_workspace_and_mask := by
  intro s q imm
  have cfg : imm.2.cfg = s.cfg := fetch_cfg s
  have fetched : Kept s imm.2 := fetch_kept s q
  have mem : MemKept s imm.2 := fetch_memKept s q
  refine ⟨⟨_, rfl, rfl, mem.of_mem rfl rfl, fetch_st s, rfl, fetched⟩,
    ⟨_, rfl, ?mask, fun k high => ?others, mem.of_mem (by simp [imm]) (by simp [imm]), by simp, by simp [imm],
      fetched.trans (setMask_kept _ _)⟩⟩
  case mask =>
    rw [← cfg]
    exact setMask_low_maskLevel imm.1 imm.2
  case others =>
    have outside : ¬ k < maskWidth imm.2.cfg.part := by
      rw [cfg]
      exact not_lt.mpr high
    rw [setMask_getLsbD, if_neg outside]
    exact congrArg (BitVec.getLsbD · k) (fetch_st s)

end Sys2Proof.Machine
end

section
/-! PROOFS. XOP (O23): the context switch with one store more, the operand's address into the new R11, and then X and
the shield. -/

namespace Sys2Proof.Machine

/-! ## The context switch of XOP -/

/-- The store of XOP's operand address into R11 of the workspace at `w`, before the three of every context switch
(R263, R300). -/
def saveLink (w a : Word) (s : State) : State := writeWord (slotAddr w 11) a s

/-- The end of a context switch through `v` (R300): the new `wp` is in force, and the new `pc` is read. -/
def loadContext (v w : Word) (s : State) : State := ((readWord (v + 2) s).2.setWp w).setPc (readWord (v + 2) s).1

theorem contextSwitch_eq_loadContext (v a : Word) (s : State) :
    contextSwitch v (some a) s =
      let w := even (readWord v s).1
      loadContext v w (saveContext w (saveLink w a (readWord v s).2)) := by
  simp [contextSwitch, saveContext, saveLink, loadContext]

theorem saveLink_frame (w a : Word) (s : State) (q : s.during = []) : Frame [] s (saveLink w a s) :=
  writeWord_frame (slotAddr w 11) a s q

theorem saveLink_st (w a : Word) (s : State) : (saveLink w a s).st = s.st := writeWord_st _ a s
theorem saveLink_pc (w a : Word) (s : State) : (saveLink w a s).pc = s.pc := writeWord_pc _ a s
theorem saveLink_wp (w a : Word) (s : State) : (saveLink w a s).wp = s.wp := writeWord_wp _ a s

theorem loadContext_cfg (v w : Word) (s : State) : (loadContext v w s).cfg = s.cfg := readWord_cfg (v + 2) s

theorem loadContext_mem (v w : Word) (s : State) (q : s.during = []) : (loadContext v w s).mem = s.mem :=
  readWord_mem (v + 2) s q

theorem loadContext_pc (v w : Word) (s : State) (q : s.during = []) (holds : s.holdsWord (v + 2) = true) :
    (loadContext v w s).pc = even ((loadContext v w s).peekWord (v + 2)) := by
  rw [peekWord_of_mem (loadContext_cfg v w s) (loadContext_mem v w s q), ← readWord_value (v + 2) s q holds]
  rfl

/-- The forward context switch with a link: the new `wp` is read before the four stores, the new `pc` after them. -/
theorem contextSwitch_link_spec (v a : Word) (s : State) (q : s.during = []) :
    let t := contextSwitch v (some a) s
    let linked := saveLink t.wp a (readWord v s).2
    (s.holdsWord v = true → t.wp = even (s.peekWord v)) ∧ linked.cfg = s.cfg ∧ WordStored s linked (t.wp + 22) a ∧
      ContextStored t.wp linked t ∧ (s.holdsWord (v + 2) = true → t.pc = even (t.peekWord (v + 2))) := by
  intro t linked
  let saved := saveContext t.wp linked
  have wp : t.wp = even (readWord v s).1 := even_even _
  have switched : t = loadContext v t.wp saved := by
    simp only [saved, linked, wp]
    exact contextSwitch_eq_loadContext v a s
  have vector : OnlyDevices s (readWord v s).2 := readWord_onlyDevices v s q
  have stored : WordStored s linked (t.wp + 22) a :=
    vector.then_wordStored (writeWord_stored (slotAddr t.wp 11) a _ (vector.quiet q))
  have linkFrame : Frame [] (readWord v s).2 linked := saveLink_frame t.wp a _ (vector.quiet q)
  have linkQuiet : linked.during = [] := linkFrame.quiet (vector.quiet q)
  have linkCfg : linked.cfg = s.cfg := linkFrame.cfg.trans (readWord_cfg v s)
  have frame : Frame [] linked saved := saveContext_frame t.wp linked linkQuiet
  have quiet : saved.during = [] := frame.quiet linkQuiet
  have cfg : t.cfg = saved.cfg := by rw [switched, loadContext_cfg]
  have mem : t.mem = saved.mem := by rw [switched, loadContext_mem v t.wp saved quiet]
  refine ⟨fun holds => ?_, linkCfg, stored, (saveContext_stored t.wp linked linkQuiet).of_mem cfg mem, fun holds => ?_⟩
  · rw [wp, readWord_value v s q holds]
  · rw [switched]
    exact loadContext_pc v t.wp saved quiet ((holdsWord_of_cfg (frame.cfg.trans linkCfg) _).trans holds)

/-! ## XOP -/

/-- What XOP does to X: it is set, where the part has it (R263). -/
def markXop (s : State) : State := if s.cfg.part = .tms9940 then s else s.setFlag .x true

theorem markXop_frame (s : State) : Frame [.x] s (markXop s) := by
  unfold markXop
  split
  · exact .refl [.x] s
  · exact setFlag_frame .x true s

theorem markXop_mem (s : State) : (markXop s).mem = s.mem := by
  unfold markXop
  split <;> rfl

theorem markXop_x (s : State) : (markXop s).flag .x = if s.cfg.part = .tms9940 then s.flag .x else true := by
  unfold markXop
  split
  · rfl
  · simp

/-- The vector's address does not wrap, so the sum of words is the sum of numbers. -/
theorem xopVector_eq (n : BitVec 4) : 0x0040 + 4 * n.setWidth 16 = BitVec.ofNat 16 (0x40 + 4 * n.toNat) := by
  apply BitVec.eq_of_toNat_eq
  have small := n.isLt
  have wide : n.toNat % 65536 = n.toNat := Nat.mod_eq_of_lt (by omega)
  simp [BitVec.toNat_add, BitVec.toNat_mul, wide]

theorem exec_xop (n : BitVec 4) (src : Operand) (s : State) :
    exec (.xop n src) s =
      let a := readOperand16 src s
      .next ((markXop (contextSwitch (BitVec.ofNat 16 (0x40 + 4 * n.toNat)) (some a.addr) a.state)).setInhibit true) := by
  simp only [exec, execXop, markXop, ← xopVector_eq, contextSwitch_cfg, readOperand16_cfg]
  cases s.cfg.part <;> rfl

/-- Settles O23: the operand is read, the context switch stores its address with the rest, then X and the shield. -/
theorem xopResult : Obligations.xop_result := by
  intro n src s q a v
  let c := contextSwitch v (some a.addr) a.state
  have quiet : a.state.during = [] := readOperand16_quiet src s q
  have read : a.state.cfg = s.cfg := readOperand16_cfg src s
  have st : c.st = s.st := (contextSwitch_st v _ a.state).trans (readOperand16_st src s)
  obtain ⟨xOnly, markPc, markWp, mark⟩ := markXop_frame c
  have switchKept : Kept s c := (readOperand16_kept src s q).trans (contextSwitch_kept v (some a.addr) a.state quiet)
  obtain ⟨⟨cfg, halted, -, xword, env, -⟩, unwatched⟩ := switchKept.trans mark
  obtain ⟨⟨switchCfg, -⟩, -⟩ := switchKept
  obtain ⟨⟨markCfg, -⟩, -⟩ := mark
  obtain ⟨wp, linkCfg, r11, stored, pc⟩ := contextSwitch_link_spec v a.addr a.state quiet
  obtain ⟨m1, m2, cfg1, cfg2, r15, r14, r13⟩ := stored.of_mem markCfg (markXop_mem c)
  have cfg0 := linkCfg.trans read
  rw [saveLink_st, readWord_st, readOperand16_st] at r15
  rw [saveLink_pc, readWord_pc] at r14
  rw [saveLink_wp, readWord_wp, readOperand16_wp] at r13
  refine ⟨(markXop c).setInhibit true, exec_xop n src s, fun holds => markWp.trans (wp holds), ?_, fun holds => ?_, ?_,
    stKeptBut_pre st xOnly, rfl, halted, xword, cfg, env, unwatched⟩
  · rw [State.setInhibit_wp, markWp]
    exact ⟨_, m1, m2, cfg0, cfg1.trans cfg0, cfg2.trans cfg0, r11, r15, r14, wordStored_of_mem r13 rfl rfl⟩
  · rw [State.setInhibit_pc, markPc, pc ((holdsWord_of_cfg read _).trans holds)]
    exact congrArg even (peekWord_of_mem markCfg (markXop_mem c) (v + 2)).symm
  · rw [← switchCfg, ← flag_of_st .x st]
    exact markXop_x c

end Sys2Proof.Machine
end

section
/-! PROOFS. The shift count (O43), and SLA, SRA, SRL and SRC (O44). Each shift stores its result in the register it read,
compares the result with 0 and puts the last bit out in C; what that shape does is said once. The results, C and SLA's
OV are said in terms of numbers first, for every count and register value. -/

namespace Sys2Proof.Machine

/-! ## The count -/

theorem shiftCount_of_field {cnt : BitVec 4} (s : State) (field : cnt ≠ 0) : shiftCount cnt s = (cnt.toNat, s) :=
  if_neg field

/-- A field of 0 takes the count from R0, and R0 is read. -/
theorem shiftCount_zero (s : State) :
    shiftCount 0 s = (let k := (readReg 0 s).1.toNat % 16; if k = 0 then 16 else k, (readReg 0 s).2) := rfl

theorem shiftCount_range (cnt : BitVec 4) (s : State) : 1 ≤ (shiftCount cnt s).1 ∧ (shiftCount cnt s).1 ≤ 16 := by
  by_cases field : cnt = 0
  case pos =>
    simp only [field, shiftCount_zero]
    split <;> omega
  case neg =>
    have positive : cnt.toNat ≠ 0 := fun zero => field (BitVec.eq_of_toNat_eq zero)
    have small := cnt.isLt
    simp only [shiftCount_of_field s field]
    omega

theorem shiftCount_frame (cnt : BitVec 4) (s : State) (q : s.during = []) : Frame [] s (shiftCount cnt s).2 := by
  by_cases field : cnt = 0
  case pos =>
    rw [field]
    exact readWord_frame (regAddr s 0) s q
  case neg =>
    rw [shiftCount_of_field s field]
    exact .refl [] s

/-- R0 is the first word of the workspace. -/
theorem regAddr_zero (s : State) : regAddr s 0 = s.wp := by simp [regAddr]

/-- Settles O43: the field, or R0 as it is read; reading R0 changes only devices that watch the bus. -/
theorem shiftCount_spec : Obligations.shift_count := by
  intro cnt s q
  obtain ⟨atLeast, atMost⟩ := shiftCount_range cnt s
  refine ⟨shiftCount_of_field s, ?_, atLeast, atMost,
    memKept_of_mem (shiftCount_cfg s cnt) (shiftCount_mem s cnt q), shiftCount_frame cnt s q⟩
  intro field holds
  have r0 : (readReg 0 s).1 = s.peekWord s.wp := by
    rw [readReg, regAddr_zero]
    exact readWord_value s.wp s q holds
  rw [field, shiftCount_zero, r0]

/-! ## The results as numbers -/

theorem toNat_shiftLeft_eq_mul (d : Word) (n : Nat) : (d <<< n).toNat = d.toNat * 2 ^ n % 65536 := by
  rw [BitVec.toNat_shiftLeft, Nat.shiftLeft_eq]

theorem toInt_shiftLeft_eq_mul (d : Word) (n : Nat) : (d <<< n).toInt = (d.toInt * 2 ^ n).bmod 65536 := by
  rw [BitVec.toInt_shiftLeft, Nat.shiftLeft_eq, BitVec.toInt_eq_toNat_bmod, Int.bmod_mul_bmod]
  push_cast
  rfl

theorem toInt_sshiftRight_eq_div (d : Word) (n : Nat) : (d.sshiftRight n).toInt = d.toInt / 2 ^ n := by
  rw [BitVec.toInt_sshiftRight, Int.shiftRight_eq_div_pow]
  push_cast
  rfl

theorem toNat_ushiftRight_eq_div (d : Word) (n : Nat) : (d >>> n).toNat = d.toNat / 2 ^ n := by
  rw [BitVec.toNat_ushiftRight, Nat.shiftRight_eq_div_pow]

/-- A rotate moves the low `m` bits to the top; the two parts have no bit in common, so their union is their sum. -/
theorem toNat_rotateRight_eq_add (d : Word) {m : Nat} (h : m < 16) :
    (d.rotateRight m).toNat = d.toNat / 2 ^ m + d.toNat % 2 ^ m * 2 ^ (16 - m) := by
  have split : 2 ^ 16 = 2 ^ m * 2 ^ (16 - m) := by rw [← Nat.pow_add, Nat.add_sub_of_le h.le]
  have low : d.toNat / 2 ^ m < 2 ^ (16 - m) := Nat.div_lt_of_lt_mul (split ▸ d.isLt)
  have high : d.toNat <<< (16 - m) % 2 ^ 16 = (d.toNat % 2 ^ m) <<< (16 - m) := by
    rw [Nat.shiftLeft_eq, Nat.shiftLeft_eq, split, Nat.mul_mod_mul_right]
  rw [BitVec.toNat_rotateRight, Nat.mod_eq_of_lt h, high, Nat.shiftRight_eq_div_pow, Nat.or_comm,
    ← Nat.shiftLeft_add_eq_or_of_lt low, Nat.shiftLeft_eq, Nat.add_comm]

/-! ## C and OV of SLA -/

/-- The last bit that leaves on the left is bit 16 of the product. -/
theorem getLsbD_eq_bit16_of_product (d : Word) {n : Nat} (h : n ≤ 16) :
    d.getLsbD (16 - n) = decide (d.toNat * 2 ^ n / 65536 % 2 = 1) := by
  have split : 65536 = 2 ^ (16 - n) * 2 ^ n := by rw [← Nat.pow_add, Nat.sub_add_cancel h]
  rw [split, Nat.mul_div_mul_right _ _ (Nat.two_pow_pos n), ← BitVec.testBit_toNat, Nat.testBit_eq_decide_div_mod_eq]

section
variable {w : Nat} (x : BitVec w) (k : Nat)

theorem toNat_lt_two_pow_iff : x.toNat < 2 ^ k ↔ ∀ j, k ≤ j → x.getLsbD j = false := by
  constructor
  · intro small j above
    rw [← BitVec.testBit_toNat]
    exact Nat.testBit_lt_two_pow (small.trans_le (Nat.pow_le_pow_right (by omega) above))
  · intro clear
    refine Nat.lt_pow_two_of_testBit _ fun j above => ?_
    rw [BitVec.testBit_toNat]
    exact clear j above

/-- A number that is not negative is below 2^k exactly when its bits from `k` up are 0. -/
theorem toInt_mem_range_iff_of_nonneg (sign : x.msb = false) :
    -2 ^ k ≤ x.toInt ∧ x.toInt < 2 ^ k ↔ ∀ j, k ≤ j → j < w → x.getLsbD j = false := by
  have value : x.toInt = x.toNat := BitVec.toInt_eq_toNat_of_msb sign
  have inRange : -2 ^ k ≤ x.toInt ∧ x.toInt < 2 ^ k ↔ x.toNat < 2 ^ k := by
    rw [value]
    zify
    have := Int.pow_pos (n := 2) (m := k) (by decide)
    omega
  rw [inRange, toNat_lt_two_pow_iff]
  refine forall_congr' fun j => imp_congr_right fun _ => ⟨fun clear _ => clear, fun clear => ?_⟩
  rcases Nat.lt_or_ge j w with inside | outside
  · exact clear inside
  · exact BitVec.getLsbD_of_ge x j outside

/-- A signed number is in the range of `k` bits and a sign exactly when its bits from `k` up are its sign: a negative
one because its complement is in that range too. -/
theorem toInt_mem_range_iff : -2 ^ k ≤ x.toInt ∧ x.toInt < 2 ^ k ↔ ∀ j, k ≤ j → j < w → x.getLsbD j = x.msb := by
  cases sign : x.msb
  case false => exact toInt_mem_range_iff_of_nonneg x k sign
  case true =>
    have top : w - 1 < w := BitVec.lt_of_getLsbD (x.msb_eq_getLsbD_last ▸ sign)
    have pos : 0 < w := by omega
    have complement := toInt_mem_range_iff_of_nonneg (~~~x) k (by simp [BitVec.msb_not, sign])
    have inRange : -2 ^ k ≤ x.toInt ∧ x.toInt < 2 ^ k ↔ -2 ^ k ≤ (~~~x).toInt ∧ (~~~x).toInt < 2 ^ k := by
      rw [toInt_not_eq x pos]
      omega
    rw [inRange, complement]
    refine forall_congr' fun j => forall_congr' fun _ => forall_congr' fun inside => ?_
    simp [inside]
end

/-- SLA's test in terms of bits: with a 0 below bit 0, the bits from 16 - n up are not all the sign (R251). -/
theorem slaOverflow_eq_false_iff (d : Word) {n : Nat} (h : n ≤ 16) :
    slaOverflow d n = false ↔
      ∀ j, 16 - n ≤ j → j < 17 → (d ++ 0#1 : BitVec 17).getLsbD j = (d ++ 0#1 : BitVec 17).msb := by
  have sign : (d ++ 0#1 : BitVec 17).getLsbD 16 = (d ++ 0#1 : BitVec 17).msb := rfl
  simp only [slaOverflow, Bool.not_eq_false', List.all_eq_true, List.mem_range, beq_iff_eq, sign]
  constructor
  · intro same j above inside
    have bit := same (16 - j) (by omega)
    rwa [Nat.sub_sub_self (by omega)] at bit
  · intro same k inside
    exact same (16 - k) (by omega) (by omega)

/-- OV is 1 exactly where the signed product does not fit a word (R251). -/
theorem slaOverflow_iff (d : Word) {n : Nat} (h : n ≤ 16) :
    slaOverflow d n = decide ((d <<< n).toInt ≠ d.toInt * 2 ^ n) := by
  have doubled : (d ++ 0#1 : BitVec 17).toInt = 2 * d.toInt := BitVec.toInt_append.trans (by simp)
  have split : (65536 : Int) = 2 ^ (16 - n) * 2 ^ n := by rw [← Int.pow_add, Nat.sub_add_cancel h]; rfl
  have fits : slaOverflow d n = false ↔ (d <<< n).toInt = d.toInt * 2 ^ n := by
    have positive : (0 : Int) < 2 ^ n := Int.pow_pos (by decide)
    calc slaOverflow d n = false
      _ ↔ -2 ^ (16 - n) ≤ 2 * d.toInt ∧ 2 * d.toInt < 2 ^ (16 - n) := by
        rw [slaOverflow_eq_false_iff d h, ← toInt_mem_range_iff, doubled]
      _ ↔ -2 ^ (16 - n) * 2 ^ n ≤ 2 * d.toInt * 2 ^ n ∧ 2 * d.toInt * 2 ^ n < 2 ^ (16 - n) * 2 ^ n := by
        rw [Int.mul_le_mul_right positive, Int.mul_lt_mul_right positive]
      _ ↔ (d <<< n).toInt = d.toInt * 2 ^ n := by
        rw [toInt_shiftLeft_eq_mul, Int.bmod_eq_iff (by decide), neg_mul, ← split, mul_assoc, Int.sub_self]
        omega
  rw [Bool.eq_iff_iff, decide_eq_true_iff, ne_eq, ← fits, Bool.not_eq_false]

/-! ## The result stored, with its flags -/

variable {s t : State} {fs : List Flag}

/-- A result goes into its register, other flags are written, and then L>, A> and EQ: what every shift ends in. -/
theorem setLAE_flags_writeReg_spec (w : Reg) (r : Word) (q : s.during = []) (flags : Frame fs (writeReg w r s) t)
    (mem : t.mem = (writeReg w r s).mem) :
    WordStored s (setLAE r t) (regAddr s w) r ∧ LaeOf (setLAE r t) r ∧ Frame (fs ++ [.l, .a, .eq]) s (setLAE r t) :=
  ⟨(wordStored_of_mem (writeWord_stored _ r s q) flags.cfg mem).setLAE r, setLAE_laeOf t r,
    ((writeWord_frame _ r s q).trans flags).trans (setLAE_frame r t)⟩

/-- What SRA, SRL and SRC share (R252 to R254), whatever the result `f` gives. -/
theorem shiftRight_spec (f : Word → Nat → Word) (cnt : BitVec 4) (w : Reg) (s : State) (q : s.during = []) :
    let d := readReg w s
    let c := shiftCount cnt d.2
    let t := shiftRight f cnt w s
    WordStored c.2 t (regAddr s w) (f d.1 c.1) ∧ t.flag .c = d.1.getLsbD (c.1 - 1) ∧ LaeOf t (f d.1 c.1) ∧
      Frame [.l, .a, .eq, .c] c.2 t := by
  intro d c t
  have quiet : c.2.during = [] := by simp [c, d, q]
  have address : regAddr c.2 w = regAddr s w := regAddr_of_wp w (by simp [c, d])
  obtain ⟨stored, lae, frame⟩ :=
    setLAE_flags_writeReg_spec w (f d.1 c.1) quiet (setFlag_frame .c (d.1.getLsbD (c.1 - 1)) _) rfl
  rw [address] at stored
  exact ⟨stored, ((setLAE_frame _ _).flag_eq (by decide)).trans (flag_setFlag _ .c .c _), lae, frame.weaken (by decide)⟩

/-- Settles O44: each shift stores its result with its flags; the results, C and OV are the numbers said above. -/
theorem shiftResults : Obligations.shift_results := by
  intro cnt w s q d c n
  obtain ⟨_, atMost⟩ : 1 ≤ n ∧ n ≤ 16 := shiftCount_range cnt d.2
  refine ⟨?sla, ⟨_, _, rfl, toInt_sshiftRight_eq_div d.1 n, shiftRight_spec _ cnt w s q⟩,
    ⟨_, _, rfl, toNat_ushiftRight_eq_div d.1 n, shiftRight_spec _ cnt w s q⟩,
    ⟨_, _, rfl, toNat_rotateRight_eq_add d.1 (Nat.mod_lt n (by decide)), shiftRight_spec _ cnt w s q⟩⟩
  case sla =>
    let r := d.1 <<< n
    let carried := (writeReg w r c.2).setFlag .c (d.1.getLsbD (16 - n))
    let m := carried.setFlag .ov (slaOverflow d.1 n)
    have quiet : c.2.during = [] := by simp [c, d, q]
    have address : regAddr c.2 w = regAddr s w := regAddr_of_wp w (by simp [c, d])
    obtain ⟨stored, lae, frame⟩ := setLAE_flags_writeReg_spec (t := m) w r quiet
      ((setFlag_frame .c _ _).trans (setFlag_frame .ov _ carried)) rfl
    rw [address] at stored
    have ovOut : m.flag .ov = slaOverflow d.1 n := flag_setFlag carried .ov .ov _
    have cOut : m.flag .c = d.1.getLsbD (16 - n) := by simp [m, carried]
    have after : Frame [.l, .a, .eq] m (setLAE r m) := setLAE_frame r m
    refine ⟨r, setLAE r m, rfl, toNat_shiftLeft_eq_mul d.1 n, stored, ?_, ?_, lae, frame.weaken (by decide)⟩
    · rw [after.flag_eq (by decide), cOut, getLsbD_eq_bit16_of_product d.1 atMost]
    · rw [after.flag_eq (by decide), ovOut, slaOverflow_iff d.1 atMost]

end Sys2Proof.Machine
end

section
/-! PROOFS. X (O11), and the external codes: RSET, CKOF, CKON and LREX (O50) and IDLE (O51), on what one cycle of a code
does. -/

namespace Sys2Proof.Machine

variable {s t : State} {code : BitVec 3}

/-! ## X -/

/-- Settles O11: X reads its operand and then only sets `xword`. -/
theorem xReadsTheWord : Obligations.x_reads_the_word := by
  intro src s q
  obtain ⟨⟨cfg, halted, inhibit, -⟩, unwatched⟩ := readOperand16_kept src s q
  exact ⟨(readOperand16 src s).state.setXword (some (readOperand16 src s).value), rfl, rfl, memKept_of_mem rfl rfl, rfl,
    readOperand16_st src s, readOperand16_wp src s, cfg, halted, inhibit, unwatched⟩

/-! ## One cycle of an external code -/

theorem seeAddr_log (a : Word) (s : State) : (s.seeAddr a).dev.log = s.dev.log := by
  unfold State.seeAddr
  split <;> rfl

theorem extCtl_log (code : BitVec 3) (s : State) (q : s.during = []) :
    (extCtl code s).dev.log = .extCtl code :: s.dev.log := by
  rw [extCtl, s.busCycle_quiet q, State.react_log, seeAddr_log, State.emit_dev]

/-- The cycle of a code does what `ExtCycle` says, whatever EXT_CTL holds (R85, R276, D28). -/
theorem extCtl_extCycle (code : BitVec 3) (s : State) (q : s.during = []) : ExtCycle code s (extCtl code s) := by
  have cfg : (extCtl code s).cfg = s.cfg := extCtl_cfg s code
  have during : (extCtl code s).during = s.during := by rw [extCtl_during, q, List.tail_nil]
  refine ⟨extCtl_log code s q, memKept_of_mem cfg (extCtl_mem s code q), extCtl_pc s code, extCtl_wp s code, cfg,
    extCtl_inhibit s code, extCtl_xword s code, during, fun silent => ?_, fun r rest first hcode => ?_⟩
  · rw [extCtl_none s code q silent]
    exact ⟨State.seeAddr_env _ 0, (seeAddr_unwatched _ 0).trans (emit_unwatched s _)⟩
  · subst hcode
    rw [extCtl_first s r rest q first]
    exact ⟨rfl, rfl⟩

/-- The cycle says nothing of the Halt state. -/
theorem ExtCycle.setHalted (h : ExtCycle code s t) (b : Bool) : ExtCycle code s (t.setHalted b) := h

/-- A system whose first reaction to the code is to pull LOAD low has it low after the cycle (R275, D28). -/
theorem ExtCycle.load_low (h : ExtCycle code s t) {r : ExtReaction} {rest : List ExtReaction}
    (first : s.cfg.extCtl = r :: rest) (hcode : r.code = code) (pulls : r.now = [.loadLine true]) :
    t.dev.pins.load = true := by
  obtain ⟨-, -, -, -, -, -, -, -, -, reacts⟩ := h
  obtain ⟨dev, -⟩ := reacts r rest first hcode
  rw [dev, pulls]
  rfl

/-! ## The instructions -/

theorem setMask_zero_maskLevel (s : State) : (s.setMask 0).maskLevel = 0 := by
  rw [setMask_maskLevel]
  exact Nat.zero_mod _

/-- The four words of the codes but IDLE's are undefined on the TMS 9940 (R283, D22). -/
theorem decode_external_tms9940 {w : Word} (h : w = 0x0360 ∨ w = 0x03C0 ∨ w = 0x03A0 ∨ w = 0x03E0) :
    decode .tms9940 w = .error (.undefinedOpcode w) := by
  obtain rfl | rfl | rfl | rfl := h <;> rfl

/-- Settles O50: each of the four is the cycle of its code, of RSET after the mask is cleared. -/
theorem externalInstructions : Obligations.external_instructions := by
  intro s q
  have rset : ExtCycle 0b011 (s.setMask 0) (extCtl 0b011 (s.setMask 0)) :=
    extCtl_extCycle 0b011 _ ((State.setMask_during s 0).trans q)
  have lrex : ExtCycle 0b111 s (extCtl 0b111 s) := extCtl_extCycle 0b111 s q
  have mask : (extCtl 0b011 (s.setMask 0)).maskLevel = 0 := by
    rw [maskLevel_of_stKeptBut (stKeptBut_of_st (extCtl_st _ _)) (by rw [extCtl_cfg]), setMask_zero_maskLevel]
  have above (k : Nat) (high : 4 ≤ k) : (extCtl 0b011 (s.setMask 0)).st.getLsbD k = s.st.getLsbD k := by
    rw [extCtl_st, setMask_high 0 s high]
  exact ⟨⟨_, rfl, rset, mask, above, by simp, by simp, by simp⟩,
    ⟨_, rfl, extCtl_extCycle _ s q, extCtl_st s _, extCtl_halted s _⟩,
    ⟨_, rfl, extCtl_extCycle _ s q, extCtl_st s _, extCtl_halted s _⟩,
    ⟨_, rfl, lrex, extCtl_st s _, extCtl_halted s _, fun _ _ => lrex.load_low⟩,
    rfl, rfl, rfl, rfl, fun _ => decode_external_tms9940⟩

/-- Settles O51: IDLE is the cycle of its code, and then only the Halt state is written. -/
theorem idleResult : Obligations.idle_result := fun s q =>
  ⟨_, rfl, (extCtl_extCycle 0b010 s q).setHalted true, rfl, extCtl_st s _⟩

end Sys2Proof.Machine
end
